-- ==== Sys2Proof/Word.lean ====
section
/-! DEFINITION. The word types of the machine (10_state.md, widths by decision D17, log 17). -/

namespace Sys2Proof

/-- A byte of memory: 8 bits ("bits 7:4 in byte 128", 20_memory.md R45). -/
abbrev Byte := BitVec 8
/-- A selector (10_state.md R41). -/
abbrev Word16 := BitVec 16
/-- A control word, count, limit or access-rights field (10_state.md R30 to R36, R39). -/
abbrev Word32 := BitVec 32
/-- An address, control register or MSR field (10_state.md R35 to R38). -/
abbrev Word64 := BitVec 64

end Sys2Proof
end

