-- ==== Sys2Proof/Machine/State.lean ====
section
/-! DEFINITION. The machine's state as plain data: the logical processor (10_state.md R11 to R23), the current VMCS
(R26 to R43), physical memory (20_memory.md R45) and the model's own two fields (`code`, `draws`); the ways a step stops;
the state after reset. -/

namespace Sys2Proof.Machine

/-- The operating modes a VM entry tells apart (10_state.md R13): `other` is every mode the source does not name. -/
inductive Mode
  | virtual8086 | compatibility | other
deriving DecidableEq, Repr, Inhabited

/-- The current operating mode's instruction-pointer width (10_state.md R11): 16-bit, 32-bit or 64-bit code. Log 24. -/
inductive IpWidth
  | w16 | w32 | w64
deriving DecidableEq, Repr, Inhabited

/-- VMX operation (10_state.md R19). Log 28. -/
inductive VmxMode
  | root | nonRoot
deriving DecidableEq, Repr, Inhabited

/-- The launch state of a VMCS (10_state.md R27, decision D18). -/
inductive LaunchState
  | clear | launched
deriving DecidableEq, Repr, Inhabited

/-- A segment register: selector, base, limit and access rights (10_state.md R39 to R41). -/
structure Segment where
  sel : Word16
  base : Word64
  limit : Word32
  ar : Word32
deriving DecidableEq, Repr, Inhabited

/-- A descriptor-table register (10_state.md R42). -/
structure TableReg where
  base : Word64
  limit : Word32
deriving DecidableEq, Repr, Inhabited

/-- One MSR area: its address field and its count field (10_state.md R36). -/
structure MsrArea where
  addr : Word64
  count : Word32
deriving DecidableEq, Repr, Inhabited

/-- The control fields of a VMCS, "VMX controls" (10_state.md R30 to R36). -/
structure Controls where
  pinBased : Word32
  procBased : Word32
  exit : Word32
  entry : Word32
  cr3TargetCount : Word32
  entryIntInfo : Word32
  entryExcErrorCode : Word32
  entryInsnLen : Word32
  ioBitmapA : Word64
  ioBitmapB : Word64
  virtualApicPage : Word64
  tprThreshold : Word32
  exitMsrStore : MsrArea
  exitMsrLoad : MsrArea
  entryMsrLoad : MsrArea
deriving DecidableEq, Repr, Inhabited

/-- The host-state area (10_state.md R37): no limit, access-rights or LDTR field, no base for CS, SS, DS, ES. -/
structure HostState where
  cr0 : Word64
  cr3 : Word64
  cr4 : Word64
  sysenterEsp : Word64
  sysenterRip : Word64
  csSel : Word16
  ssSel : Word16
  dsSel : Word16
  esSel : Word16
  fsSel : Word16
  gsSel : Word16
  trSel : Word16
  fsBase : Word64
  gsBase : Word64
  gdtrBase : Word64
  idtrBase : Word64
  trBase : Word64
  rip : Word64
deriving DecidableEq, Repr, Inhabited

/-- The guest-state area (10_state.md R38 to R43). -/
structure GuestState where
  cr0 : Word64
  cr3 : Word64
  cr4 : Word64
  dr7 : Word64
  debugctl : Word64
  sysenterEsp : Word64
  sysenterRip : Word64
  rip : Word64
  rflags : Word64
  cs : Segment
  ss : Segment
  ds : Segment
  es : Segment
  fs : Segment
  gs : Segment
  tr : Segment
  ldtr : Segment
  gdtr : TableReg
  idtr : TableReg
deriving DecidableEq, Repr, Inhabited

/-- A VMCS, with the six parts of 10_state.md R26 and no other. `exitInfo` stands for the VM-exit information fields,
whose number and widths are lost (R29, log 40). -/
structure Vmcs where
  launchState : LaunchState
  vmInstructionError : Word32
  exitInfo : List Word64
  ctl : Controls
  host : HostState
  guest : GuestState
deriving DecidableEq, Repr, Inhabited

/-- The state of the logical processor that a VM entry loads: RIP, RFLAGS, mode, privilege, IA32_EFER.LMA and the live
registers (10_state.md R11 to R15, R20 to R23, R39 to R42). Log 30. -/
structure Processor where
  rip : Word64
  rflags : Word64
  mode : Mode
  ipWidth : IpWidth
  cpl : BitVec 2
  lma : Bool
  cr0 : Word64
  cr3 : Word64
  cr4 : Word64
  dr7 : Word64
  debugctl : Word64
  sysenterEsp : Word64
  sysenterRip : Word64
  cs : Segment
  ss : Segment
  ds : Segment
  es : Segment
  fs : Segment
  gs : Segment
  tr : Segment
  ldtr : Segment
  gdtr : TableReg
  idtr : TableReg
deriving DecidableEq, Repr, Inhabited

/-- A byte store: a list of (address, byte) pairs, whose canonical form is `Memory.wf` (Machine/Ops.lean). -/
structure Memory where
  cells : List Host.Cell
deriving DecidableEq, Repr, Inhabited

/-- The whole machine.
* `cpu`, `vmxMode`, `monitorArmed`, `movssBlocking`: the logical processor (10_state.md R11 to R23);
* `currentVmcs`: none, or the VMCS that is current (R16, 91_not_in_source.md N9);
* `mem`: physical memory (20_memory.md R45);
* `code`: the MODEL's own, the bytes the processor fetches at each RIP value (log 27);
* `draws`: the MODEL's own, a counter that makes the free values of different steps independent (log 29). -/
structure State where
  cpu : Processor
  vmxMode : VmxMode
  monitorArmed : Bool
  movssBlocking : Bool
  currentVmcs : Option Vmcs
  mem : Memory
  code : Memory
  draws : Nat
deriving DecidableEq, Repr, Inhabited

/-- The exceptions a VM-entry instruction generates, "ordinary IA-32 faults" that are "delivered normally"
(60_exceptions.md R241 to R243). Their delivery is not in the spec, so the step stops with the fault and what the spec
says it carries. SAFE: nothing can be proved of a run past it. Log 3. -/
inductive Fault
  /-- #UD, raised by `VMLAUNCH` and `VMRESUME` in virtual-8086 or compatibility mode (R241); no error code. Safe. -/
  | invalidOpcode (savedRip : Word64)
  /-- #GP, raised by `VMLAUNCH` and `VMRESUME` when CPL is not 0 (R242). Safe. -/
  | generalProtection (savedRip : Word64) (errorCode : Word32)
deriving DecidableEq, Repr

/-- Why the model declines to go on: each is a case the spec says a model must `refuse`. All are SAFE. -/
inductive Refusal
  /-- The meaning of an instruction is missing; no instruction of this model answers with it. Safe. -/
  | notModelled (mnemonic : String)
  /-- Raised by `VMLAUNCH` and `VMRESUME` outside VMX root operation (10_state.md R19, 93 U15). Safe. -/
  | outsideVmxRootOperation
  /-- Raised by a VM-instruction failure whose next instruction lies past the top of the instruction pointer's range or
  at a non-canonical RIP (10_state.md R11, 93 U12). Safe. -/
  | nextRipOutOfRange
  /-- Raised by the TPR check when byte 128 of the virtual-APIC page is not ordinary memory (20_memory.md R48, 93 U13).
  Safe. -/
  | virtualApicPageNotMemory
  /-- Raised by the step: a VM-entry instruction behind prefix bytes (30_encoding.md R57, 93 U14). Safe. -/
  | prefixedForm
  /-- Raised by the step: bytes that are no VM-entry instruction (30_encoding.md R59). Safe. -/
  | notVmEntryInstruction
  /-- Raised by the step: the bytes known at RIP end before an instruction does (30_encoding.md R57, log 27). Safe. -/
  | unknownInstructionBytes
deriving DecidableEq, Repr

/-- A segment register as the family leaves it at reset (log 4). -/
def resetSegment (sel : Word16) (base : Word64) (ar : Word32) : Segment :=
  { sel, base, limit := 0xFFFF, ar }

/-- The logical processor as the IA-32 family leaves it at reset: the spec states no value (10_state.md R44). PRESUMED,
unsafe (log 4). -/
def resetProcessor : Processor :=
  { rip := 0xFFF0, rflags := 0x2, mode := .other, ipWidth := .w16, cpl := 0, lma := false
    cr0 := 0x60000010, cr3 := 0, cr4 := 0, dr7 := 0x400, debugctl := 0, sysenterEsp := 0, sysenterRip := 0
    cs := resetSegment 0xF000 0xFFFF0000 0x93, ss := resetSegment 0 0 0x93, ds := resetSegment 0 0 0x93
    es := resetSegment 0 0 0x93, fs := resetSegment 0 0 0x93, gs := resetSegment 0 0 0x93
    tr := resetSegment 0 0 0x82, ldtr := resetSegment 0 0 0x82
    gdtr := { base := 0, limit := 0xFFFF }, idtr := { base := 0, limit := 0xFFFF } }

/-- The machine right after reset. The spec gives no reset value at all (10_state.md R44, 70 R260): the processor is the
family's (PRESUMED, log 4), everything else the model's (DESIGN CHOICE, log 5). Unsafe; no statement rests on it. -/
def State.reset : State :=
  { cpu := resetProcessor, vmxMode := .root, monitorArmed := false, movssBlocking := false, currentVmcs := none
    mem := { cells := [] }, code := { cells := [] }, draws := 0 }

end Sys2Proof.Machine
end

