-- ==== Sys2Proof/Config.lean ====
section
/-! DEFINITION. What an implementation fixes and what the spec leaves free. `Impl` lists every parameter of 00_scope.md R5
(and of 92_eei_decisions.md's closing list) and every free value; a check or an effect takes an `Impl` as an argument, as the
spec asks. The opaque constants of `Config` are the machine's own unknown parameters and free values: they have no body, so a
claim about the machine holds whatever they are. `Machine.impl` (Machine/Impl.lean) puts them together. -/

namespace Sys2Proof

open Machine

/-- `CHECK_RSVD_31_17_OTHER` (00_scope.md R5): is 45_guest_segment_checks.md R209 a check. -/
inductive RsvdCheck
  | yes | no | either
deriving DecidableEq, Repr

/-- `VMFAIL_OTHER_FLAGS` (00_scope.md R5, decision D2). -/
inductive OtherFlags
  | draw | clear
deriving DecidableEq, Repr

/-- Why a VM entry fails "as on a VM exit" (40_vm_entry_sequence.md R68). -/
inductive FailureCause
  | guestState | msrLoad
deriving DecidableEq, Repr

/-- What the injection of an event leaves (40_vm_entry_sequence.md R73, lost): the processor, the memory bytes it writes
and the VM-entry interruption-information field. Log 33. -/
structure Injection where
  cpu : Processor
  writes : List Host.Cell
  intInfo : Word32
deriving Inhabited

/-- An implementation of the VM-entry mechanism: the parameters of 00_scope.md R5, the memory map (decision D13), and the
free values of 93_implementation_defined.md. A free value is a function of the state before the effect. -/
structure Impl where
  /-- `PAW`, the physical-address width (10_state.md R25). -/
  paw : Nat
  /-- `LAW`, the linear-address width of "canonical" (00_scope.md R9). -/
  law : Nat
  /-- Reserved bits of the four control words that must be 1, and that must be 0 (decision D14). -/
  pinMust1 : Word32
  pinMust0 : Word32
  procMust1 : Word32
  procMust0 : Word32
  exitMust1 : Word32
  exitMust0 : Word32
  entryMust1 : Word32
  entryMust0 : Word32
  /-- `CR3_TARGET_MAX` (42_control_checks.md R94). -/
  cr3TargetMax : Nat
  /-- Required bits of the CR0 and CR4 fields (43_host_state_checks.md R121, R122). -/
  cr0Must1 : Word64
  cr0Must0 : Word64
  cr4Must1 : Word64
  cr4Must0 : Word64
  /-- `DEBUGCTL_RSVD` (44_guest_register_checks.md R146). -/
  debugctlRsvd : Word64
  /-- VM-instruction error numbers (41_basic_checks.md R87, 60_exceptions.md R246). -/
  errMovss : Word32
  errLaunchNotClear : Word32
  errResumeNotLaunched : Word32
  errEntryCtrl : Word32
  errEntryHost : Word32
  /-- `ITYPE_*`: codes of the interruption types (60_exceptions.md R245). -/
  itypeExtInt : BitVec 3
  itypeNmi : BitVec 3
  itypeHwExc : BitVec 3
  itypeSwInt : BitVec 3
  itypePrivSwExc : BitVec 3
  itypeSwExc : BitVec 3
  /-- `CTL_*`: positions of the four named controls (10_state.md R31). -/
  ctlActivateIoBitmaps : Nat
  ctlUseTprShadow : Nat
  ctlHostAddrSpaceSize : Nat
  ctlIa32eModeGuest : Nat
  /-- `INSN_LEN` (10_state.md R11). -/
  insnLen : Nat
  /-- `V86_BASE` (45_guest_segment_checks.md R169). -/
  v86Base : Word16 → Word64
  checkRsvd3117Other : RsvdCheck
  vmfailOtherFlags : OtherFlags
  /-- The memory map: is this physical address ordinary memory (20_memory.md R52, decision D13). -/
  isRam : Nat → Bool
  /-- What a byte of ordinary memory that nothing has written holds (10_state.md R44, 20_memory.md R213). -/
  unwrittenByte : Nat → Byte
  /-- The other status flags after a VM-instruction failure (40_vm_entry_sequence.md R66, R67). -/
  otherFlags : State → Word64
  /-- MOV-SS blocking after the instruction (93 U7). -/
  movssAfter : State → Bool
  /-- Whether the error number of the host-state class is reported when both numbers may be (93 U9). -/
  reportsHostError : State → Bool
  /-- The verdict of R209 when it is `either` and its condition is false (93 U4). -/
  rsvd3117Verdict : State → Bool
  /-- `LostGuestChecksPass` (44_guest_register_checks.md R150). -/
  lostGuestChecksPass : State → Bool
  /-- The load of guest state of the lost §4.3.2 (91 N4). -/
  guestLoad : State → Processor
  /-- The MSR load of the lost §4.4; `none` is its failure (40_vm_entry_sequence.md R74). -/
  msrLoad : State → Option Processor
  /-- Event injection of the lost §4.5 (40_vm_entry_sequence.md R73). -/
  inject : State → Injection
  /-- The load of host state of the lost §4.7 (40_vm_entry_sequence.md R68). -/
  hostLoad : FailureCause → State → Processor
  /-- The VM-exit information fields after a failure like a VM exit (93 U16). -/
  exitInfo : FailureCause → State → List Word64
  /-- Memory bytes written by a failure like a VM exit (lost §4.7). -/
  exitWrites : FailureCause → State → List Host.Cell
  /-- Address-range monitoring after a VM entry that fails in step 3 or 4 (93 U6). -/
  monitorAfterFailure : State → Bool
  /-- The bytes fetched at each RIP value once the processor state has been loaded (log 27). -/
  fetchView : State → List Host.Cell

namespace Config

/-- PAW is 32 plus this: every width of 32..52 and no other (00_scope.md R5). Log 13. -/
opaque pawOver32 : Fin 21
/-- LAW is 1 plus this: every width of 1..64 (00_scope.md R9). Log 12. -/
opaque lawOver1 : Fin 64
/-- Reserved settings of the control words before the named controls are taken out (decision D14). Log 14. -/
opaque pinOnes : Word32
opaque pinZeros : Word32
opaque procOnes : Word32
opaque procZeros : Word32
opaque exitOnes : Word32
opaque exitZeros : Word32
opaque entryOnes : Word32
opaque entryZeros : Word32
/-- The bits reserved in IA32_DEBUGCTL (decision D20). Log 19. -/
opaque debugctlReserved : Word64
/-- A permutation of the 32-bit numbers: the five error numbers are its images of five numbers, so they are any five
numbers that are pairwise distinct and nothing else is known of them (decision D3). Log 10. -/
opaque errorNumbering : Equiv.Perm Word32
/-- A permutation of the six interruption-type codes that are not reserved (decision D16). Log 16. -/
opaque typeNumbering : Equiv.Perm (Fin 6)
/-- A permutation of the bit positions of the processor-based word: it places two distinct named controls
(decision D15). Log 15. -/
opaque procPositions : Equiv.Perm (Fin 32)
/-- Position of "host address-space size" in the VM-exit controls (decision D15). Log 15. -/
opaque exitPosition : Fin 32
/-- Position of "IA-32e mode guest" in the VM-entry controls (decision D15). Log 15. -/
opaque entryPosition : Fin 32
/-- Which of the two admitted readings V86_BASE has: shift left, or the source's literal shift right (decision D7,
90_conflicts.md C4). Log 20. -/
opaque v86ShiftsLeft : Bool
/-- The memory map (decision D13). Log 25. -/
opaque isRam : Nat → Bool
/-- Bytes of ordinary memory that nothing has written (10_state.md R44). Log 26. -/
opaque unwrittenByte : Nat → Byte
/-- The other status flags of a VM-instruction failure (93 U19). Log 7. -/
opaque otherFlags : State → Word64
/-- MOV-SS blocking after the instruction (93 U7). Log 9. -/
opaque movssAfter : State → Bool
/-- Which number is reported when both may be (93 U9). Log 11. -/
opaque reportsHostError : State → Bool
/-- The verdict of R209 (93 U4). Log 21. -/
opaque rsvd3117Verdict : State → Bool
/-- The lost guest checks (44_guest_register_checks.md R150, 93 U20). Log 1. -/
opaque lostGuestChecksPass : State → Bool
/-- The lost load of guest state (91 N4). Log 31. -/
opaque guestLoad : State → Processor
/-- The lost MSR load (91 N6). Log 32. -/
opaque msrLoad : State → Option Processor
/-- The lost event injection (91 N8). Log 33. -/
opaque inject : State → Injection
/-- The lost load of host state (91 N7). Log 2. -/
opaque hostLoad : FailureCause → State → Processor
/-- The VM-exit information fields (93 U16). Log 40. -/
opaque exitInfo : FailureCause → State → List Word64
/-- Memory written by a failure like a VM exit (91 N7). Log 2. -/
opaque exitWrites : FailureCause → State → List Host.Cell
/-- Monitoring after a failed step 3 or 4 (93 U6). Log 35. -/
opaque monitorAfterFailure : State → Bool
/-- What is fetched at each RIP value after processor state has been loaded. Log 27. -/
opaque fetchView : State → List Host.Cell

end Config

end Sys2Proof
end

