-- ==== Sys2Proof/Machine/Flags.lean ====
section
/-! DEFINITION. The status flags of RFLAGS and what a VM-instruction failure writes to them (10_state.md R12,
40_vm_entry_sequence.md R66, R67). -/

namespace Sys2Proof.Machine

/-- RFLAGS.CF, bit 0 (10_state.md R12). -/
def flagCF : Word64 := 0x1
/-- RFLAGS.ZF, bit 6 (10_state.md R12). -/
def flagZF : Word64 := 0x40
/-- The six status flags CF, PF, AF, ZF, SF, OF: bits 0, 2, 4, 6, 7, 11. The positions of PF, AF, SF and OF are the
family's: PRESUMED, log 6. -/
def statusFlags : Word64 := 0x8D5

/-- What the five status flags other than `flag` take: free values under `draw`, 0 under `clear` (decision D2, log 7). -/
def otherStatusFlags (p : Impl) (s : State) : Word64 :=
  match p.vmfailOtherFlags with
  | .draw => p.otherFlags s
  | .clear => 0

/-- RFLAGS after a VM-instruction failure that sets `flag`: `flag` is 1, the other status flags are `others`, every other
bit stays (40_vm_entry_sequence.md R66, R67). -/
def failureFlags (flag others rflags : Word64) : Word64 :=
  (rflags &&& ~~~statusFlags) ||| flag ||| (others &&& statusFlags &&& ~~~flag)

end Sys2Proof.Machine
end

