-- ==== Sys2Proof/Machine/Operands.lean ====
section
/-! DEFINITION. The operands of a VM entry. No instruction has an explicit operand (30_encoding.md R55); the implicit ones
are fields of the current VMCS, read here by the bit ranges the spec names. -/

namespace Sys2Proof.Machine

/-- `v[hi:lo]`: the unsigned number formed by bits `hi` down to `lo` of `v` (00_scope.md R6). -/
def slice {w : Nat} (v : BitVec w) (hi lo : Nat) : Nat := v.toNat / 2 ^ lo % 2 ^ (hi + 1 - lo)

/-- `v[i]`: bit `i` of `v`, true for 1 (00_scope.md R6). -/
def bit {w : Nat} (v : BitVec w) (i : Nat) : Bool := v.getLsbD i

/-- A canonical address: bits 63 down to LAW-1 are all equal (00_scope.md R9, log 12). -/
def canonical (p : Impl) (a : Word64) : Bool := a == (a.setWidth p.law).signExtend 64

/-- `withinPAW`: no bit at or beyond the physical-address width is set (42_control_checks.md R110). -/
def withinPaw (p : Impl) (a : Nat) : Bool := a / 2 ^ p.paw == 0

/-! ### The named controls (10_state.md R31) -/

/-- "activate I/O bitmaps" VM-execution control. -/
def activateIoBitmaps (p : Impl) (v : Vmcs) : Bool := bit v.ctl.procBased p.ctlActivateIoBitmaps
/-- "use TPR shadow" VM-execution control. -/
def useTprShadow (p : Impl) (v : Vmcs) : Bool := bit v.ctl.procBased p.ctlUseTprShadow
/-- "host address-space size" VM-exit control. -/
def hostAddrSpaceSize (p : Impl) (v : Vmcs) : Bool := bit v.ctl.exit p.ctlHostAddrSpaceSize
/-- "IA-32e mode guest" VM-entry control: "the guest will be IA-32e mode" (45_guest_segment_checks.md R160). -/
def ia32eModeGuest (p : Impl) (v : Vmcs) : Bool := bit v.ctl.entry p.ctlIa32eModeGuest

/-- "The guest will be virtual-8086": the VM flag, bit 17, of the guest RFLAGS field (45_guest_segment_checks.md R160). -/
def v86Guest (v : Vmcs) : Bool := bit v.guest.rflags 17

/-! ### The VM-entry interruption-information field (10_state.md R33) -/

/-- Bits 7:0, the vector. -/
def infoVector (info : Word32) : Nat := slice info 7 0
/-- Bits 10:8, the interruption type. -/
def infoType (info : Word32) : BitVec 3 := BitVec.ofNat 3 (slice info 10 8)
/-- Bit 11, deliver error code. -/
def infoDeliverErrorCode (info : Word32) : Bool := bit info 11
/-- Bits 30:12, reserved. -/
def infoReserved (info : Word32) : Nat := slice info 30 12
/-- Bit 31, valid. -/
def infoValid (info : Word32) : Bool := bit info 31

/-! ### Selectors and access rights (10_state.md R40, R41) -/

/-- Bits 1:0 of a selector. -/
def selRpl (sel : Word16) : Nat := slice sel 1 0
/-- Bit 2 of a selector. -/
def selTi (sel : Word16) : Bool := bit sel 2

/-- Access rights 3:0, Type. -/
def arType (r : Segment) : Nat := slice r.ar 3 0
/-- Access rights 4, S. -/
def arS (r : Segment) : Bool := bit r.ar 4
/-- Access rights 6:5, DPL. -/
def arDpl (r : Segment) : Nat := slice r.ar 6 5
/-- Access rights 7, P. -/
def arP (r : Segment) : Bool := bit r.ar 7
/-- Access rights 11:8, reserved. -/
def arReservedLow (r : Segment) : Nat := slice r.ar 11 8
/-- Access rights 13, L. -/
def arL (r : Segment) : Bool := bit r.ar 13
/-- Access rights 14, D/B. -/
def arDb (r : Segment) : Bool := bit r.ar 14
/-- Access rights 15, G. -/
def arG (r : Segment) : Bool := bit r.ar 15
/-- Access rights 16, Unusable. -/
def arUnusable (r : Segment) : Bool := bit r.ar 16
/-- Access rights 31:17, reserved. -/
def arReservedHigh (r : Segment) : Nat := slice r.ar 31 17

/-- A register is usable if its unusable bit is 0 (45_guest_segment_checks.md R161). -/
def usable (r : Segment) : Bool := !arUnusable r

/-! ### MSR areas (20_memory.md R50) -/

/-- The address of the last byte of an MSR area with a non-zero count, computed without wrapping
(42_control_checks.md R103, 70 R270). -/
def msrAreaLastByte (m : MsrArea) : Nat := m.addr.toNat + m.count.toNat * 16 - 1

end Sys2Proof.Machine
end

