-- ==== Sys2Proof/Machine/Ops.lean ====
section
/-! DEFINITION. The shared operations: memory, the updates of the state, raising an exception, the two VM-instruction
failures, and the loads and steps of a VM entry that the source names and whose text is lost. -/

namespace Sys2Proof.Machine

/-- What an instruction's meaning answers. -/
abbrev Result := Host.Outcome State Fault Refusal

/-! ### Byte stores -/

/-- The canonical form: addresses strictly rising. An unlisted address has no value, so no entry can equal it. -/
abbrev Memory.wf (m : Memory) : Prop := m.cells.Pairwise fun x y => x.1 < y.1

/-- The byte listed at an address, if any. -/
def lookupCells : List Host.Cell → Nat → Option Byte
  | [], _ => none
  | (k, b) :: rest, a => if a = k then some b else lookupCells rest a

/-- Write one byte, keeping the addresses rising. -/
def insertCell : List Host.Cell → Nat → Byte → List Host.Cell
  | [], a, b => [(a, b)]
  | (k, c) :: rest, a, b =>
    if a < k then (a, b) :: (k, c) :: rest
    else if a = k then (a, b) :: rest
    else (k, c) :: insertCell rest a b

/-- What a store lists at an address; an unlisted address reads as no value. -/
def Memory.read (m : Memory) (a : Nat) : Option Byte := lookupCells m.cells a

/-- Write one byte. -/
def Memory.write (m : Memory) (a : Nat) (b : Byte) : Memory := { cells := insertCell m.cells a b }

/-- Write a list of bytes, each at its own address, in order. -/
def Memory.writeCells (m : Memory) : List Host.Cell → Memory
  | [] => m
  | (a, b) :: rest => (m.write a b).writeCells rest

/-- Write consecutive bytes from an address up. -/
def Memory.writeBytes (m : Memory) (a : Nat) : List Byte → Memory
  | [] => m
  | b :: rest => (m.write a b).writeBytes (a + 1) rest

/-- The store that lists exactly these bytes. -/
def Memory.ofCells (cells : List Host.Cell) : Memory := Memory.writeCells { cells := [] } cells

/-- Is the address one of ordinary memory below 2^PAW (20_memory.md R45, R52). -/
def physOrdinary (p : Impl) (a : Nat) : Bool := a < 2 ^ p.paw && p.isRam a

/-- The byte at a physical address of ordinary memory: what was written there, or the free value of a byte that nothing has
written (20_memory.md R213, 10_state.md R44, log 26). -/
def physByte (p : Impl) (m : Memory) (a : Nat) : Byte := (m.read a).getD (p.unwrittenByte a)

/-- `MemReadPhys(addr, n)`: the `n` bytes from `a` up, no translation; no answer where a byte does not exist or is not
ordinary memory (20_memory.md R45, R48). -/
def memReadPhys (p : Impl) (m : Memory) (a : Nat) : Nat → Option (List Byte)
  | 0 => some []
  | n + 1 =>
    if physOrdinary p a then (memReadPhys p m (a + 1) n).map (physByte p m a :: ·) else none

/-- Write the bytes that lie in ordinary memory; the others go nowhere the model holds. -/
def writePhys (p : Impl) (m : Memory) (cells : List Host.Cell) : Memory :=
  m.writeCells (cells.filter fun c => physOrdinary p c.1)

/-! ### Updates of the state -/

/-- Replace the processor state. -/
def State.setCpu (s : State) (x : Processor) : State := { s with cpu := x }
/-- Replace RIP. -/
def State.setRip (s : State) (x : Word64) : State := { s with cpu := { s.cpu with rip := x } }
/-- Replace RFLAGS. -/
def State.setRflags (s : State) (x : Word64) : State := { s with cpu := { s.cpu with rflags := x } }
/-- Set the VMX operation. -/
def State.setVmxMode (s : State) (x : VmxMode) : State := { s with vmxMode := x }
/-- Set address-range monitoring. -/
def State.setMonitor (s : State) (x : Bool) : State := { s with monitorArmed := x }
/-- Set MOV-SS blocking. -/
def State.setMovss (s : State) (x : Bool) : State := { s with movssBlocking := x }
/-- Change the current VMCS, where there is one. -/
def State.mapVmcs (s : State) (f : Vmcs → Vmcs) : State := { s with currentVmcs := s.currentVmcs.map f }
/-- Replace physical memory. -/
def State.setMem (s : State) (x : Memory) : State := { s with mem := x }
/-- Replace the bytes fetched. -/
def State.setCode (s : State) (x : Memory) : State := { s with code := x }
/-- Count one instruction, so that the next one's free values are new (log 29). -/
def State.tick (s : State) : State := { s with draws := s.draws + 1 }

/-- Store an error number (10_state.md R28). -/
def Vmcs.setError (v : Vmcs) (x : Word32) : Vmcs := { v with vmInstructionError := x }
/-- Set the launch state (10_state.md R27). -/
def Vmcs.setLaunchState (v : Vmcs) (x : LaunchState) : Vmcs := { v with launchState := x }
/-- Replace the VM-exit information fields (10_state.md R29). -/
def Vmcs.setExitInfo (v : Vmcs) (x : List Word64) : Vmcs := { v with exitInfo := x }
/-- Replace the VM-entry interruption-information field (10_state.md R33). -/
def Vmcs.setIntInfo (v : Vmcs) (x : Word32) : Vmcs := { v with ctl := { v.ctl with entryIntInfo := x } }

/-! ### Exceptions -/

/-- The vector of an exception (60_exceptions.md R241, R242). #UD's is the family's: PRESUMED, log 3. -/
def faultVector : Fault → Nat
  | .invalidOpcode _ => 6
  | .generalProtection _ _ => 13

/-- The error code an exception delivers, if it delivers one (60_exceptions.md R241, R242). -/
def faultErrorCode : Fault → Option Word32
  | .invalidOpcode _ => none
  | .generalProtection _ e => some e

/-- Generate #UD. It is a fault: nothing has been written and the RIP it saves is the instruction's own
(60_exceptions.md R241, R243). Delivery is not in the spec; the step ends here (log 3). -/
def raiseInvalidOpcode (s : State) : Result := .fault (.invalidOpcode s.cpu.rip)

/-- Generate #GP with error code 0 (60_exceptions.md R242, R243, decision D11). Log 3. -/
def raiseGeneralProtection (s : State) : Result := .fault (.generalProtection s.cpu.rip 0)

/-! ### VM-instruction failures -/

/-- `pc + INSN_LEN` fits the current mode's instruction pointer and, in 64-bit code, is canonical
(10_state.md R11, 93 U12). Log 24. -/
def ripFits (p : Impl) (c : Processor) : Bool :=
  match c.ipWidth with
  | .w16 => c.rip.toNat + p.insnLen < 2 ^ 16
  | .w32 => c.rip.toNat + p.insnLen < 2 ^ 32
  | .w64 => c.rip.toNat + p.insnLen < 2 ^ 64 && canonical p (c.rip + BitVec.ofNat 64 p.insnLen)

/-- The address of the next instruction, `pc <- pc + INSN_LEN`; past the end of the instruction pointer's range the spec
says to refuse (10_state.md R11, 93 U12). -/
def nextRip (p : Impl) (c : Processor) : Option Word64 :=
  if ripFits p c then some (c.rip + BitVec.ofNat 64 p.insnLen) else none

/-- What the two VM-instruction failures share: control passes to the next instruction, `flag` is set, the other status
flags and MOV-SS blocking take free values, nothing else changes (40_vm_entry_sequence.md R66, R67, decision D1, 93 U7). -/
def failToNext (p : Impl) (flag : Word64) (rip : Word64) (s : State) : State :=
  (((s.setRip rip).setRflags (failureFlags flag (otherStatusFlags p s) s.cpu.rflags)).setMovss (p.movssAfter s)).tick

/-- `VMfailInvalid`: RFLAGS.CF is set (40_vm_entry_sequence.md R66). -/
def vmFailInvalid (p : Impl) (s : State) : Result :=
  match nextRip p s.cpu with
  | some rip => .next (failToNext p flagCF rip s)
  | none => .refused .nextRipOutOfRange

/-- `VMfailValid(e)`: RFLAGS.ZF is set and `e` is stored in the VM-instruction error field (40_vm_entry_sequence.md R67). -/
def vmFailValid (p : Impl) (e : Word32) (s : State) : Result :=
  match nextRip p s.cpu with
  | some rip => .next ((failToNext p flagZF rip s).mapVmcs (·.setError e))
  | none => .refused .nextRipOutOfRange

/-! ### Loads of processor state -/

/-- CR0.NW and CR0.CD, bits 29 and 30 (10_state.md R20). -/
def cr0CacheBits : Word64 := 0x60000000

/-- A loaded processor state keeps the CR0.NW and CR0.CD that were in force: neither a VM entry nor a VM exit changes them
(70_reset_and_hazards.md R268, 43 R121, 44 R141). -/
def Processor.keepCacheBits (old new : Processor) : Processor :=
  { new with cr0 := (new.cr0 &&& ~~~cr0CacheBits) ||| (old.cr0 &&& cr0CacheBits) }

/-- Load a processor state. -/
def State.loadCpu (s : State) (new : Processor) : State := s.setCpu (s.cpu.keepCacheBits new)

/-- `EntryFailsLikeExit(cause)`: processor state is loaded from the host-state area by text that is lost (free, but for
CR0.NW and CR0.CD), information about the failure is stored in the VM-exit information fields (free), monitoring and MOV-SS
blocking are free, the launch state and the VM-instruction error field stay (40_vm_entry_sequence.md R68, R71, 93 U6, U16,
U18). The processor stays in VMX root operation. Log 2, 34, 35. -/
def entryFailsLikeExit (p : Impl) (cause : FailureCause) (s : State) : State :=
  ((((((s.loadCpu (p.hostLoad cause s)).setMonitor (p.monitorAfterFailure s)).setMovss (p.movssAfter s)).mapVmcs
    (·.setExitInfo (p.exitInfo cause s))).setMem (writePhys p s.mem (p.exitWrites cause s))).setCode
    (Memory.ofCells (p.fetchView s))).tick

end Sys2Proof.Machine
end

