-- ==== Sys2Proof/Machine/ControlChecks.lean ====
section
/-! DEFINITION. Step 2, checks on the VMX controls: 42_control_checks.md, one definition per rule. A check answers true when
it passes (00_scope.md R8). -/

namespace Sys2Proof.Machine

/-- Reserved bits hold their proper values (42_control_checks.md R90). -/
def reservedOk {w : Nat} (must1 must0 x : BitVec w) : Bool := x &&& must1 == must1 && x &&& must0 == 0

/-- R90, pin-based VM-execution controls. -/
def pinBasedOk (p : Impl) (v : Vmcs) : Bool := reservedOk p.pinMust1 p.pinMust0 v.ctl.pinBased
/-- R91, processor-based VM-execution controls. -/
def procBasedOk (p : Impl) (v : Vmcs) : Bool := reservedOk p.procMust1 p.procMust0 v.ctl.procBased
/-- R92, VM-exit controls. -/
def exitControlsOk (p : Impl) (v : Vmcs) : Bool := reservedOk p.exitMust1 p.exitMust0 v.ctl.exit
/-- R93, VM-entry controls. -/
def entryControlsOk (p : Impl) (v : Vmcs) : Bool := reservedOk p.entryMust1 p.entryMust0 v.ctl.entry

/-- R94, CR3-target count. -/
def cr3TargetCountOk (p : Impl) (v : Vmcs) : Bool := v.ctl.cr3TargetCount.toNat ≤ p.cr3TargetMax

/-- R95, interruption type: not the reserved 1 or 7. -/
def injectionTypeOk (info : Word32) : Bool := infoType info != 1 && infoType info != 7

/-- R96, vector against interruption type. -/
def injectionVectorOk (p : Impl) (info : Word32) : Bool :=
  (infoType info != p.itypeNmi || infoVector info == 2) && (infoType info != p.itypeHwExc || infoVector info ≤ 31)

/-- The vectors of exceptions "that would normally deliver an error code" (R97, decision D21). -/
def errorCodeVectors : List Nat := [8, 10, 11, 12, 13, 14, 17]

/-- R97, deliver-error-code bit: 1 if and only if a hardware exception with one of those vectors. -/
def injectionErrorBitOk (p : Impl) (info : Word32) : Bool :=
  infoDeliverErrorCode info == (infoType info == p.itypeHwExc && errorCodeVectors.contains (infoVector info))

/-- R98, reserved bits 30:12. -/
def injectionReservedOk (info : Word32) : Bool := infoReserved info == 0

/-- R99, bits 31:15 of the error code when it is delivered. -/
def injectionErrorCodeOk (info errorCode : Word32) : Bool := !infoDeliverErrorCode info || slice errorCode 31 15 == 0

/-- R100, instruction length 1 to 15 for the three software types. -/
def injectionLengthOk (p : Impl) (info len : Word32) : Bool :=
  !(infoType info == p.itypeSwInt || infoType info == p.itypeSwExc || infoType info == p.itypePrivSwExc)
    || (1 ≤ len.toNat && len.toNat ≤ 15)

/-- R95 to R100, gated by the valid bit: when it is 0 the six pass whatever the fields hold. -/
def eventInjectionOk (p : Impl) (v : Vmcs) : Bool :=
  !infoValid v.ctl.entryIntInfo
    || (injectionTypeOk v.ctl.entryIntInfo && injectionVectorOk p v.ctl.entryIntInfo
        && injectionErrorBitOk p v.ctl.entryIntInfo && injectionReservedOk v.ctl.entryIntInfo
        && injectionErrorCodeOk v.ctl.entryIntInfo v.ctl.entryExcErrorCode
        && injectionLengthOk p v.ctl.entryIntInfo v.ctl.entryInsnLen)

/-- A page address: bits 11:0 are 0 and the address is within the physical-address width (R101, R102). -/
def pageAddressOk (p : Impl) (a : Word64) : Bool := slice a 11 0 == 0 && withinPaw p a.toNat

/-- R101, I/O-bitmap addresses. -/
def ioBitmapsOk (p : Impl) (v : Vmcs) : Bool :=
  !activateIoBitmaps p v || (pageAddressOk p v.ctl.ioBitmapA && pageAddressOk p v.ctl.ioBitmapB)

/-- R102, virtual-APIC page address. -/
def virtualApicPageOk (p : Impl) (v : Vmcs) : Bool := !useTprShadow p v || pageAddressOk p v.ctl.virtualApicPage

/-- R103, the start of an MSR area. -/
def msrAreaStartOk (p : Impl) (m : MsrArea) : Bool :=
  m.count == 0 || (slice m.addr 3 0 == 0 && withinPaw p m.addr.toNat)

/-- R103, the last byte of an MSR area, in arithmetic that does not wrap. -/
def msrAreaEndOk (p : Impl) (m : MsrArea) : Bool := m.count == 0 || withinPaw p (msrAreaLastByte m)

/-- R104, VM-exit MSR-store area, start. -/
def exitMsrStoreStartOk (p : Impl) (v : Vmcs) : Bool := msrAreaStartOk p v.ctl.exitMsrStore
/-- R105, VM-exit MSR-store area, end. -/
def exitMsrStoreEndOk (p : Impl) (v : Vmcs) : Bool := msrAreaEndOk p v.ctl.exitMsrStore
/-- R106, VM-exit MSR-load area, start. -/
def exitMsrLoadStartOk (p : Impl) (v : Vmcs) : Bool := msrAreaStartOk p v.ctl.exitMsrLoad
/-- R107, VM-exit MSR-load area, end. -/
def exitMsrLoadEndOk (p : Impl) (v : Vmcs) : Bool := msrAreaEndOk p v.ctl.exitMsrLoad
/-- R108, VM-entry MSR-load area, start. -/
def entryMsrLoadStartOk (p : Impl) (v : Vmcs) : Bool := msrAreaStartOk p v.ctl.entryMsrLoad
/-- R109, VM-entry MSR-load area, end. -/
def entryMsrLoadEndOk (p : Impl) (v : Vmcs) : Bool := msrAreaEndOk p v.ctl.entryMsrLoad

/-- The check of R111 is made: "use TPR shadow" is 1 and the page address is a valid place to read (R102, R111). -/
def readsVirtualApicPage (p : Impl) (v : Vmcs) : Bool := useTprShadow p v && virtualApicPageOk p v

/-- The read of R111: byte 128 of the virtual-APIC page, `none` where it is not ordinary memory (20_memory.md R48, R49). -/
def virtualTpr (p : Impl) (m : Memory) (v : Vmcs) : Option Byte :=
  match memReadPhys p m (v.ctl.virtualApicPage.toNat + 128) 1 with
  | some [b] => some b
  | _ => none

/-- The comparison of R111: bits 3:0 of the TPR threshold are not greater than bits 7:4 of the byte. -/
def tprThresholdFits (threshold : Word32) (vtpr : Byte) : Bool := slice threshold 3 0 ≤ slice vtpr 7 4

/-- R111, TPR threshold against the virtual-APIC page. A page that is not ordinary memory is refused before any check's
verdict is used (`readsDeviceMemory`), so the answer there is not used. -/
def tprThresholdOk (p : Impl) (m : Memory) (v : Vmcs) : Bool :=
  !readsVirtualApicPage p v ||
    match virtualTpr p m v with
    | some b => tprThresholdFits v.ctl.tprThreshold b
    | none => false

/-- The read of R111 would touch something other than ordinary memory: the spec says to refuse (20_memory.md R48, 93 U13).
Log 25. -/
def readsDeviceMemory (p : Impl) (m : Memory) (v : Vmcs) : Bool :=
  readsVirtualApicPage p v && (virtualTpr p m v).isNone

/-- `ControlChecksPass`: R90 to R109 and R111 (42_control_checks.md R112). -/
def controlChecksPass (p : Impl) (m : Memory) (v : Vmcs) : Bool :=
  pinBasedOk p v && procBasedOk p v && exitControlsOk p v && entryControlsOk p v && cr3TargetCountOk p v
    && eventInjectionOk p v && ioBitmapsOk p v && virtualApicPageOk p v
    && exitMsrStoreStartOk p v && exitMsrStoreEndOk p v && exitMsrLoadStartOk p v && exitMsrLoadEndOk p v
    && entryMsrLoadStartOk p v && entryMsrLoadEndOk p v && tprThresholdOk p m v

end Sys2Proof.Machine
end

