-- ==== Sys2Proof/Machine/HostChecks.lean ====
section
/-! DEFINITION. Step 2, checks on the host-state area and on address-space size: 43_host_state_checks.md, one definition per
rule. -/

namespace Sys2Proof.Machine

/-- A CR3 field: bits 63:52 are 0, and so are the bits of 51:32 at or beyond the physical-address width (R123, and R144 of
44_guest_register_checks.md). -/
def cr3Ok (p : Impl) (x : Word64) : Bool :=
  slice x 63 52 == 0 && (List.range' 32 20).all fun i => decide (i < p.paw) || !bit x i

/-- R121, host CR0. -/
def hostCr0Ok (p : Impl) (v : Vmcs) : Bool := reservedOk p.cr0Must1 p.cr0Must0 v.host.cr0
/-- R122, host CR4. -/
def hostCr4Ok (p : Impl) (v : Vmcs) : Bool := reservedOk p.cr4Must1 p.cr4Must0 v.host.cr4
/-- R123, host CR3. -/
def hostCr3Ok (p : Impl) (v : Vmcs) : Bool := cr3Ok p v.host.cr3
/-- R124, host IA32_SYSENTER_ESP and IA32_SYSENTER_RIP. -/
def hostSysenterOk (p : Impl) (v : Vmcs) : Bool := canonical p v.host.sysenterEsp && canonical p v.host.sysenterRip

/-- The seven host selectors (R125). -/
def hostSelectors (h : HostState) : List Word16 := [h.csSel, h.ssSel, h.dsSel, h.esSel, h.fsSel, h.gsSel, h.trSel]

/-- R125, RPL and TI of the seven host selectors are 0. -/
def hostSelectorBitsOk (v : Vmcs) : Bool := (hostSelectors v.host).all fun sel => slice sel 2 0 == 0
/-- R126, CS and TR are not null. -/
def hostCsTrNotNull (v : Vmcs) : Bool := v.host.csSel != 0 && v.host.trSel != 0
/-- R127, SS is not null when "host address-space size" is 0. -/
def hostSsOk (p : Impl) (v : Vmcs) : Bool := hostAddrSpaceSize p v || v.host.ssSel != 0

/-- The five host base addresses (R128). -/
def hostBases (h : HostState) : List Word64 := [h.fsBase, h.gsBase, h.gdtrBase, h.idtrBase, h.trBase]

/-- R128, host base addresses are canonical. -/
def hostBasesOk (p : Impl) (v : Vmcs) : Bool := (hostBases v.host).all fun b => canonical p b

/-- `HostChecksPass`: R121 to R128 (43_host_state_checks.md R129). -/
def hostChecksPass (p : Impl) (v : Vmcs) : Bool :=
  hostCr0Ok p v && hostCr4Ok p v && hostCr3Ok p v && hostSysenterOk p v && hostSelectorBitsOk v && hostCsTrNotNull v
    && hostSsOk p v && hostBasesOk p v

/-- R131, an IA-32e mode guest needs the processor in IA-32e mode. -/
def guestModeFitsLma (p : Impl) (lma : Bool) (v : Vmcs) : Bool := lma || !ia32eModeGuest p v
/-- R133, a 32-bit host has no IA-32e mode guest. -/
def guestModeFitsHost (p : Impl) (v : Vmcs) : Bool := hostAddrSpaceSize p v || !ia32eModeGuest p v
/-- R134, RIP of a 32-bit host. -/
def hostRip32Ok (p : Impl) (v : Vmcs) : Bool := hostAddrSpaceSize p v || slice v.host.rip 63 32 == 0
/-- R136, CR4.PAE of a 64-bit host. -/
def hostPaeOk (p : Impl) (v : Vmcs) : Bool := !hostAddrSpaceSize p v || bit v.host.cr4 5
/-- R137, RIP of a 64-bit host. -/
def hostRip64Ok (p : Impl) (v : Vmcs) : Bool := !hostAddrSpaceSize p v || canonical p v.host.rip

/-- `AddrSpaceChecksPass`: R131, R133, R134, R136, R137 (43_host_state_checks.md R138). -/
def addrSpaceChecksPass (p : Impl) (lma : Bool) (v : Vmcs) : Bool :=
  guestModeFitsLma p lma v && guestModeFitsHost p v && hostRip32Ok p v && hostPaeOk p v && hostRip64Ok p v

end Sys2Proof.Machine
end

