-- ==== Sys2Proof/Machine/GuestRegisterChecks.lean ====
section
/-! DEFINITION. Step 3, checks on guest control registers, debug registers, MSRs and descriptor-table registers:
44_guest_register_checks.md, one definition per rule. -/

namespace Sys2Proof.Machine

/-- R141, guest CR0. -/
def guestCr0Ok (p : Impl) (v : Vmcs) : Bool := reservedOk p.cr0Must1 p.cr0Must0 v.guest.cr0
/-- R142, guest CR4 (bit 13 is CR4.VMXE, 90_conflicts.md C1). -/
def guestCr4Ok (p : Impl) (v : Vmcs) : Bool := reservedOk p.cr4Must1 p.cr4Must0 v.guest.cr4
/-- R143, CR4.PAE of an IA-32e mode guest. -/
def guestPaeOk (p : Impl) (v : Vmcs) : Bool := !ia32eModeGuest p v || bit v.guest.cr4 5
/-- R144, guest CR3. -/
def guestCr3Ok (p : Impl) (v : Vmcs) : Bool := cr3Ok p v.guest.cr3
/-- R145, guest DR7. -/
def guestDr7Ok (v : Vmcs) : Bool := slice v.guest.dr7 63 32 == 0
/-- R146, guest IA32_DEBUGCTL. -/
def guestDebugctlOk (p : Impl) (v : Vmcs) : Bool := v.guest.debugctl &&& p.debugctlRsvd == 0
/-- R147, guest IA32_SYSENTER_ESP and IA32_SYSENTER_RIP. -/
def guestSysenterOk (p : Impl) (v : Vmcs) : Bool := canonical p v.guest.sysenterEsp && canonical p v.guest.sysenterRip
/-- R148, GDTR and IDTR bases. -/
def guestTableBasesOk (p : Impl) (v : Vmcs) : Bool := canonical p v.guest.gdtr.base && canonical p v.guest.idtr.base
/-- R149, GDTR and IDTR limits. -/
def guestTableLimitsOk (v : Vmcs) : Bool := slice v.guest.gdtr.limit 31 16 == 0 && slice v.guest.idtr.limit 31 16 == 0

/-- `GuestRegisterChecksPass`: R141 to R149 (44_guest_register_checks.md R151). -/
def guestRegisterChecksPass (p : Impl) (v : Vmcs) : Bool :=
  guestCr0Ok p v && guestCr4Ok p v && guestPaeOk p v && guestCr3Ok p v && guestDr7Ok v && guestDebugctlOk p v
    && guestSysenterOk p v && guestTableBasesOk p v && guestTableLimitsOk v

end Sys2Proof.Machine
end

