-- ==== Sys2Proof/Machine/GuestSegmentChecks.lean ====
section
/-! DEFINITION. Step 3, checks on the eight guest segment registers: 45_guest_segment_checks.md, one definition per rule. -/

namespace Sys2Proof.Machine

/-- DS, ES, FS, GS. -/
def dataSegments (g : GuestState) : List Segment := [g.ds, g.es, g.fs, g.gs]
/-- SS, DS, ES. -/
def flatSegments (g : GuestState) : List Segment := [g.ss, g.ds, g.es]
/-- SS, DS, ES, FS, GS. -/
def stackAndDataSegments (g : GuestState) : List Segment := [g.ss, g.ds, g.es, g.fs, g.gs]
/-- CS, SS, DS, ES, FS, GS. -/
def codeAndDataSegments (g : GuestState) : List Segment := [g.cs, g.ss, g.ds, g.es, g.fs, g.gs]
/-- SS, DS, ES, FS, GS, LDTR: the registers whose checks apply when they are usable. -/
def optionalSegments (g : GuestState) : List Segment := [g.ss, g.ds, g.es, g.fs, g.gs, g.ldtr]

/-! ### Selector fields -/

/-- R163, TR selector. -/
def trSelectorOk (v : Vmcs) : Bool := !selTi v.guest.tr.sel
/-- R164, LDTR selector. -/
def ldtrSelectorOk (v : Vmcs) : Bool := !usable v.guest.ldtr || !selTi v.guest.ldtr.sel
/-- R165, SS selector. -/
def ssSelectorOk (v : Vmcs) : Bool := v86Guest v || selRpl v.guest.ss.sel == selRpl v.guest.cs.sel

/-! ### Base-address fields -/

/-- R166, TR base. -/
def trBaseOk (p : Impl) (v : Vmcs) : Bool := canonical p v.guest.tr.base
/-- R167, LDTR base. -/
def ldtrBaseOk (p : Impl) (v : Vmcs) : Bool := !usable v.guest.ldtr || canonical p v.guest.ldtr.base
/-- R168, upper half of the CS base. -/
def csBaseHighOk (v : Vmcs) : Bool := slice v.guest.cs.base 63 32 == 0
/-- R169, CS base of a virtual-8086 guest. -/
def csBaseV86Ok (p : Impl) (v : Vmcs) : Bool := !v86Guest v || v.guest.cs.base == p.v86Base v.guest.cs.sel
/-- R170, upper halves of the SS, DS, ES bases. -/
def flatBasesHighOk (v : Vmcs) : Bool := (flatSegments v.guest).all fun r => !usable r || slice r.base 63 32 == 0
/-- R171, SS, DS, ES bases of a virtual-8086 guest. -/
def flatBasesV86Ok (p : Impl) (v : Vmcs) : Bool :=
  (flatSegments v.guest).all fun r => !v86Guest v || r.base == p.v86Base r.sel
/-- R172, FS and GS bases. -/
def fsGsBasesOk (p : Impl) (v : Vmcs) : Bool := canonical p v.guest.fs.base && canonical p v.guest.gs.base
/-- R173, FS and GS bases of a virtual-8086 guest. -/
def fsGsBasesV86Ok (p : Impl) (v : Vmcs) : Bool :=
  [v.guest.fs, v.guest.gs].all fun r => !v86Guest v || r.base == p.v86Base r.sel

/-! ### Limit fields -/

/-- R174, limits of a virtual-8086 guest. -/
def limitsV86Ok (v : Vmcs) : Bool := (codeAndDataSegments v.guest).all fun r => !v86Guest v || r.limit == 0x0000FFFF

/-! ### Access rights 3:0, Type -/

/-- R175, TR type outside IA-32e mode. -/
def trTypeLegacyOk (p : Impl) (v : Vmcs) : Bool :=
  ia32eModeGuest p v || arType v.guest.tr == 3 || arType v.guest.tr == 11
/-- R176, TR type in IA-32e mode. -/
def trTypeIa32eOk (p : Impl) (v : Vmcs) : Bool := !ia32eModeGuest p v || arType v.guest.tr == 11
/-- R177, LDTR type. -/
def ldtrTypeOk (v : Vmcs) : Bool := !usable v.guest.ldtr || arType v.guest.ldtr == 2
/-- R178, CS type, accessed. -/
def csAccessedOk (v : Vmcs) : Bool := bit v.guest.cs.ar 0
/-- R179, CS type, code segment. -/
def csCodeOk (v : Vmcs) : Bool := v86Guest v || bit v.guest.cs.ar 3
/-- R180, CS type of a virtual-8086 guest. -/
def csTypeV86Ok (v : Vmcs) : Bool := !v86Guest v || arType v.guest.cs == 3
/-- R181, SS type. -/
def ssTypeOk (v : Vmcs) : Bool := !usable v.guest.ss || arType v.guest.ss == 3 || arType v.guest.ss == 7
/-- R182, SS type of a virtual-8086 guest. -/
def ssTypeV86Ok (v : Vmcs) : Bool := !v86Guest v || arType v.guest.ss == 3
/-- R183, DS, ES, FS, GS type, accessed. -/
def dataAccessedOk (v : Vmcs) : Bool := (dataSegments v.guest).all fun r => !usable r || bit r.ar 0
/-- R184, DS, ES, FS, GS type, readable code. -/
def dataReadableOk (v : Vmcs) : Bool := (dataSegments v.guest).all fun r => !usable r || !bit r.ar 3 || bit r.ar 1
/-- R185, DS, ES, FS, GS type of a virtual-8086 guest. -/
def dataTypeV86Ok (v : Vmcs) : Bool := (dataSegments v.guest).all fun r => !v86Guest v || arType r == 3

/-! ### Access rights 4, S -/

/-- R186, S of TR. -/
def trSystemOk (v : Vmcs) : Bool := !arS v.guest.tr
/-- R187, S of LDTR. -/
def ldtrSystemOk (v : Vmcs) : Bool := !usable v.guest.ldtr || !arS v.guest.ldtr
/-- R188, S of CS. -/
def csSOk (v : Vmcs) : Bool := arS v.guest.cs
/-- R189, S of SS, DS, ES, FS, GS. -/
def stackAndDataSOk (v : Vmcs) : Bool := (stackAndDataSegments v.guest).all fun r => !usable r || arS r

/-! ### Access rights 6:5, DPL -/

/-- R190, DPL of a non-conforming CS (Type 8 to 11). -/
def csDplNonConformingOk (v : Vmcs) : Bool :=
  !(8 ≤ arType v.guest.cs && arType v.guest.cs ≤ 11) || arDpl v.guest.cs == selRpl v.guest.cs.sel
/-- R191, DPL of a conforming CS (Type 13 to 15, the source's range, 90_conflicts.md C8). -/
def csDplConformingOk (v : Vmcs) : Bool :=
  !(13 ≤ arType v.guest.cs && arType v.guest.cs ≤ 15) || arDpl v.guest.cs ≤ selRpl v.guest.cs.sel
/-- R192, DPL of CS in a virtual-8086 guest. -/
def csDplV86Ok (v : Vmcs) : Bool := !v86Guest v || arDpl v.guest.cs == 3
/-- R193, DPL of SS. -/
def ssDplOk (v : Vmcs) : Bool := v86Guest v || arDpl v.guest.ss == selRpl v.guest.ss.sel
/-- R194, DPL of DS, ES, FS, GS. -/
def dataDplOk (v : Vmcs) : Bool :=
  (dataSegments v.guest).all fun r => v86Guest v || !usable r || decide (11 < arType r) || decide (selRpl r.sel ≤ arDpl r)
/-- R195, DPL of DS, ES, FS, GS in a virtual-8086 guest. -/
def dataDplV86Ok (v : Vmcs) : Bool := (dataSegments v.guest).all fun r => !v86Guest v || arDpl r == 3

/-! ### Access rights 7, P -/

/-- R196, P of CS and TR. -/
def csTrPresentOk (v : Vmcs) : Bool := arP v.guest.cs && arP v.guest.tr
/-- R197, P of SS, DS, ES, FS, GS, LDTR. -/
def optionalPresentOk (v : Vmcs) : Bool := (optionalSegments v.guest).all fun r => !usable r || arP r

/-! ### Access rights 11:8, reserved -/

/-- R198, bits 11:8 of CS and TR. -/
def csTrReservedLowOk (v : Vmcs) : Bool := arReservedLow v.guest.cs == 0 && arReservedLow v.guest.tr == 0
/-- R199, bits 11:8 of SS, DS, ES, FS, GS, LDTR. -/
def optionalReservedLowOk (v : Vmcs) : Bool :=
  (optionalSegments v.guest).all fun r => !usable r || arReservedLow r == 0

/-! ### Access rights 14, D/B -/

/-- R200, D/B of CS. -/
def csDbOk (p : Impl) (v : Vmcs) : Bool :=
  !(v86Guest v || (ia32eModeGuest p v && arL v.guest.cs)) || !arDb v.guest.cs
/-- R201, D/B of SS, DS, ES, FS, GS. -/
def stackAndDataDbOk (v : Vmcs) : Bool := (stackAndDataSegments v.guest).all fun r => !v86Guest v || !arDb r

/-! ### Access rights 15, G -/

/-- G must be 0 if some bit of limit 11:0 is 0 or the guest will be virtual-8086 (R202, R204). -/
def granularitySmallOk (v : Vmcs) (r : Segment) : Bool := !(slice r.limit 11 0 != 0xFFF || v86Guest v) || !arG r
/-- G must be 1 if some bit of limit 31:20 is 1 (R203, R205). -/
def granularityLargeOk (r : Segment) : Bool := slice r.limit 31 20 == 0 || arG r

/-- R202, G of CS and TR, small limit. -/
def csTrGranularitySmallOk (v : Vmcs) : Bool := [v.guest.cs, v.guest.tr].all (granularitySmallOk v)
/-- R203, G of CS and TR, large limit. -/
def csTrGranularityLargeOk (v : Vmcs) : Bool := [v.guest.cs, v.guest.tr].all granularityLargeOk
/-- R204, G of SS, DS, ES, FS, GS, LDTR, small limit. -/
def optionalGranularitySmallOk (v : Vmcs) : Bool :=
  (optionalSegments v.guest).all fun r => !usable r || granularitySmallOk v r
/-- R205, G of SS, DS, ES, FS, GS, LDTR, large limit. -/
def optionalGranularityLargeOk (v : Vmcs) : Bool :=
  (optionalSegments v.guest).all fun r => !usable r || granularityLargeOk r

/-! ### Access rights 16, Unusable -/

/-- R206, TR is usable. -/
def trUsableOk (v : Vmcs) : Bool := !arUnusable v.guest.tr
/-- R207, CS, SS, DS, ES, FS, GS are usable in a virtual-8086 guest. -/
def usableV86Ok (v : Vmcs) : Bool := (codeAndDataSegments v.guest).all fun r => !v86Guest v || !arUnusable r

/-! ### Access rights 31:17, reserved -/

/-- R208, bits 31:17 of CS and TR. -/
def csTrReservedHighOk (v : Vmcs) : Bool := arReservedHigh v.guest.cs == 0 && arReservedHigh v.guest.tr == 0
/-- The condition of R209: bits 31:17 of SS, DS, ES, FS, GS, LDTR are 0 where the register is usable. -/
def optionalReservedHighZero (v : Vmcs) : Bool :=
  (optionalSegments v.guest).all fun r => !usable r || arReservedHigh r == 0
/-- R209 under its parameter: a check, no check, or a check whose existence is open, so that a false condition gives a free
verdict (decision D8, log 21). -/
def optionalReservedHighOk (p : Impl) (s : State) (v : Vmcs) : Bool :=
  match p.checkRsvd3117Other with
  | .yes => optionalReservedHighZero v
  | .no => true
  | .either => optionalReservedHighZero v || p.rsvd3117Verdict s

/-- R163 to R174: selectors, bases and limits. -/
def guestSegmentFieldsOk (p : Impl) (v : Vmcs) : Bool :=
  trSelectorOk v && ldtrSelectorOk v && ssSelectorOk v && trBaseOk p v && ldtrBaseOk p v && csBaseHighOk v
    && csBaseV86Ok p v && flatBasesHighOk v && flatBasesV86Ok p v && fsGsBasesOk p v && fsGsBasesV86Ok p v && limitsV86Ok v

/-- R175 to R185: Type. -/
def guestSegmentTypesOk (p : Impl) (v : Vmcs) : Bool :=
  trTypeLegacyOk p v && trTypeIa32eOk p v && ldtrTypeOk v && csAccessedOk v && csCodeOk v && csTypeV86Ok v && ssTypeOk v
    && ssTypeV86Ok v && dataAccessedOk v && dataReadableOk v && dataTypeV86Ok v

/-- R186 to R199: S, DPL, P and bits 11:8. -/
def guestSegmentRightsOk (v : Vmcs) : Bool :=
  trSystemOk v && ldtrSystemOk v && csSOk v && stackAndDataSOk v && csDplNonConformingOk v && csDplConformingOk v
    && csDplV86Ok v && ssDplOk v && dataDplOk v && dataDplV86Ok v && csTrPresentOk v && optionalPresentOk v
    && csTrReservedLowOk v && optionalReservedLowOk v

/-- R200 to R208: D/B, G, Unusable and bits 31:17 of CS and TR. -/
def guestSegmentSizesOk (p : Impl) (v : Vmcs) : Bool :=
  csDbOk p v && stackAndDataDbOk v && csTrGranularitySmallOk v && csTrGranularityLargeOk v && optionalGranularitySmallOk v
    && optionalGranularityLargeOk v && trUsableOk v && usableV86Ok v && csTrReservedHighOk v

/-- The checks of R163 to R208, those whose existence is certain. -/
def guestSegmentRulesOk (p : Impl) (v : Vmcs) : Bool :=
  guestSegmentFieldsOk p v && guestSegmentTypesOk p v && guestSegmentRightsOk v && guestSegmentSizesOk p v

/-- `GuestSegmentChecksPass`: R163 to R208, and R209 under its parameter (45_guest_segment_checks.md R210). -/
def guestSegmentChecksPass (p : Impl) (s : State) (v : Vmcs) : Bool :=
  guestSegmentRulesOk p v && optionalReservedHighOk p s v

end Sys2Proof.Machine
end

