-- ==== Sys2Proof/Machine/Impl.lean ====
section
/-! DEFINITION. The machine's own implementation: the parameters of 00_scope.md R5 built from the opaque constants of
`Config` so that each is constrained as the spec constrains it and no further, and this edition's values where the spec
fixes them (43_host_state_checks.md R121, R122, 42_control_checks.md R94). -/

namespace Sys2Proof.Machine

/-- The bit of a word at a position. -/
def bitAt (pos : Nat) : Word32 := (1 : Word32) <<< pos

/-- Reserved bits that must be 1: any bits but those of the named controls (42_control_checks.md R91). -/
def reservedOnes (ones named : Word32) : Word32 := ones &&& ~~~named

/-- Reserved bits that must be 0: any bits but those that must be 1 and those of the named controls
(42_control_checks.md R90, R91). -/
def reservedZeros (ones zeros named : Word32) : Word32 := zeros &&& ~~~ones &&& ~~~named

/-- The named controls of the processor-based word. -/
def procNamed : Word32 :=
  bitAt (Config.procPositions 25).val ||| bitAt (Config.procPositions 21).val

/-- The six codes that are not reserved (decision D16): the values of three bits but 1 and 7 (42_control_checks.md R95). -/
def typeCode (n : Fin 6) : BitVec 3 :=
  match n with
  | 0 => 0 | 1 => 2 | 2 => 3 | 3 => 4 | 4 => 5 | 5 => 6

/-- V86_BASE in one of the two readings the spec admits (decision D7, 90_conflicts.md C4): the selector shifted left 4 bits,
or the source's literal shift right. Log 20. -/
def v86Base (sel : Word16) : Word64 :=
  if Config.v86ShiftsLeft then (sel.setWidth 64) <<< 4 else (sel >>> 4).setWidth 64

/-- The machine's implementation. The numbers 26, 4, 5, 7, 8 and 25, 21 are only the points at which the unknown
permutations are taken: nothing is known of the results but that they differ (decisions D3, D15, D16). -/
def impl : Impl where
  paw := 32 + Config.pawOver32.val
  law := 1 + Config.lawOver1.val
  pinMust1 := reservedOnes Config.pinOnes 0
  pinMust0 := reservedZeros Config.pinOnes Config.pinZeros 0
  procMust1 := reservedOnes Config.procOnes procNamed
  procMust0 := reservedZeros Config.procOnes Config.procZeros procNamed
  exitMust1 := reservedOnes Config.exitOnes (bitAt Config.exitPosition.val)
  exitMust0 := reservedZeros Config.exitOnes Config.exitZeros (bitAt Config.exitPosition.val)
  entryMust1 := reservedOnes Config.entryOnes (bitAt Config.entryPosition.val)
  entryMust0 := reservedZeros Config.entryOnes Config.entryZeros (bitAt Config.entryPosition.val)
  cr3TargetMax := 4
  cr0Must1 := 0x80000021
  cr0Must0 := 0
  cr4Must1 := 0x2000
  cr4Must0 := 0
  debugctlRsvd := Config.debugctlReserved
  errMovss := Config.errorNumbering 26
  errLaunchNotClear := Config.errorNumbering 4
  errResumeNotLaunched := Config.errorNumbering 5
  errEntryCtrl := Config.errorNumbering 7
  errEntryHost := Config.errorNumbering 8
  itypeExtInt := typeCode (Config.typeNumbering 0)
  itypeNmi := typeCode (Config.typeNumbering 1)
  itypeHwExc := typeCode (Config.typeNumbering 2)
  itypeSwInt := typeCode (Config.typeNumbering 3)
  itypePrivSwExc := typeCode (Config.typeNumbering 4)
  itypeSwExc := typeCode (Config.typeNumbering 5)
  ctlActivateIoBitmaps := (Config.procPositions 25).val
  ctlUseTprShadow := (Config.procPositions 21).val
  ctlHostAddrSpaceSize := Config.exitPosition.val
  ctlIa32eModeGuest := Config.entryPosition.val
  insnLen := 3
  v86Base := v86Base
  checkRsvd3117Other := .either
  vmfailOtherFlags := .draw
  isRam := Config.isRam
  unwrittenByte := Config.unwrittenByte
  otherFlags := Config.otherFlags
  movssAfter := Config.movssAfter
  reportsHostError := Config.reportsHostError
  rsvd3117Verdict := Config.rsvd3117Verdict
  lostGuestChecksPass := Config.lostGuestChecksPass
  guestLoad := Config.guestLoad
  msrLoad := Config.msrLoad
  inject := Config.inject
  hostLoad := Config.hostLoad
  exitInfo := Config.exitInfo
  exitWrites := Config.exitWrites
  monitorAfterFailure := Config.monitorAfterFailure
  fetchView := Config.fetchView

end Sys2Proof.Machine
end

