-- ==== Sys2Proof/Machine/VmEntry.lean ====
section
/-! DEFINITION. The VM entry: the algorithm of 40_vm_entry_sequence.md R63, its outcomes (00_scope.md R4), what each outcome
does, and the two instructions. -/

namespace Sys2Proof.Machine

/-- Which instruction invoked the VM entry (40_vm_entry_sequence.md R63). -/
inductive EntryKind
  | launch | resume
deriving DecidableEq, Repr

/-- The outcomes of a VM entry (00_scope.md R4), and the cases in which the spec says a model must refuse. -/
inductive EntryOutcome
  /-- `Fault(#UD)` (R81). -/
  | invalidOpcode
  /-- `Fault(#GP)` (R82). -/
  | generalProtection
  /-- `VMfailInvalid` (R66). -/
  | vmFailInvalid
  /-- `VMfailValid(e)` (R67). -/
  | vmFailValid (e : Word32)
  /-- `EntryFailsLikeExit(guest-state)`, found by a check this spec holds (R68). -/
  | entryFailsLikeExit
  /-- `ChecksPassed` (R69). -/
  | checksPassed
  /-- A refusal the spec asks for. -/
  | refuse (r : Refusal)
deriving DecidableEq, Repr

/-- The launch state that the instruction needs (10_state.md R27). -/
def EntryKind.needs : EntryKind → LaunchState
  | .launch => .clear
  | .resume => .launched

/-- The error number of a wrong launch state (41_basic_checks.md R85, R86). -/
def launchStateError (p : Impl) : EntryKind → Word32
  | .launch => p.errLaunchNotClear
  | .resume => p.errResumeNotLaunched

/-- The set `E` of step 2 as a list: the numbers that may be reported (40_vm_entry_sequence.md R63, R70). A failed check of
§4.2.5 contributes both (43_host_state_checks.md R138). -/
def step2Errors (p : Impl) (s : State) (v : Vmcs) : List Word32 :=
  (if controlChecksPass p s.mem v && addrSpaceChecksPass p s.cpu.lma v then [] else [p.errEntryCtrl])
    ++ (if hostChecksPass p v && addrSpaceChecksPass p s.cpu.lma v then [] else [p.errEntryHost])

/-- `choose e in E`: any member may be reported (40_vm_entry_sequence.md R70, decision D4). Log 11. -/
def chooseError (second : Bool) : List Word32 → Option Word32
  | [] => none
  | [e] => some e
  | e :: e' :: _ => some (if second then e' else e)

/-- Steps 2 and 3 of R63 on the current VMCS. -/
def checkVmcs (p : Impl) (s : State) (v : Vmcs) : EntryOutcome :=
  if readsDeviceMemory p s.mem v then .refuse .virtualApicPageNotMemory
  else match chooseError (p.reportsHostError s) (step2Errors p s v) with
    | some e => .vmFailValid e
    | none =>
      if guestRegisterChecksPass p v && guestSegmentChecksPass p s v then .checksPassed else .entryFailsLikeExit

/-- The algorithm of R63: the outcome of a VM entry, checks 1 to 4 of step 1 in order (41_basic_checks.md R80). Its premise
is VMX root operation (10_state.md R19, 93 U15). -/
def entryOutcome (p : Impl) (kind : EntryKind) (s : State) : EntryOutcome :=
  if s.vmxMode ≠ .root then .refuse .outsideVmxRootOperation
  else if s.cpu.mode = .virtual8086 ∨ s.cpu.mode = .compatibility then .invalidOpcode
  else if s.cpu.cpl ≠ 0 then .generalProtection
  else match s.currentVmcs with
    | none => .vmFailInvalid
    | some v =>
      if s.movssBlocking then .vmFailValid p.errMovss
      else if v.launchState ≠ kind.needs then .vmFailValid (launchStateError p kind)
      else checkVmcs p s v

/-! ### After the surviving checks -/

/-- Step 3 (b) and (c): processor state is loaded by text that is lost, CR0.NW and CR0.CD kept, and address-range monitoring
is cleared (40_vm_entry_sequence.md R60, 70 R268, 10_state.md R18). Log 31. -/
def loadGuestState (p : Impl) (s : State) : State := (s.loadCpu (p.guestLoad s)).setMonitor false

/-- The VM-entry MSR-load area and the injected event are those of the current VMCS; without one there is neither. -/
def currentControl (s : State) (f : Controls → Bool) : Bool := s.currentVmcs.any fun v => f v.ctl

/-- Step 4: MSRs are loaded from the VM-entry MSR-load area, which is empty when its count is 0; `none` is the failure
(40_vm_entry_sequence.md R74, 20_memory.md R50). Log 32. -/
def loadMsrs (p : Impl) (s : State) : Option State :=
  if currentControl s fun c => c.entryMsrLoad.count != 0 then (p.msrLoad s).map s.loadCpu else some s

/-- Step 5: `VMLAUNCH` sets the launch state to launched (40_vm_entry_sequence.md R72). -/
def markLaunched (kind : EntryKind) (s : State) : State :=
  match kind with
  | .launch => s.mapVmcs (·.setLaunchState .launched)
  | .resume => s

/-- Step 6: an event is injected when the valid bit is 1; what it does to the processor, to memory and to the
interruption-information field is lost (40_vm_entry_sequence.md R73, 91 N8). Log 33. An event whose delivery itself faults is
no case of its own: the entry completes, in VMX non-root operation, with the free values (60_exceptions.md R251 leaves it
open). DESIGN CHOICE, unsafe, log 42. -/
def injectEvent (p : Impl) (s : State) : State :=
  if currentControl s fun c => infoValid c.entryIntInfo then
    ((s.loadCpu (p.inject s).cpu).setMem (writePhys p s.mem (p.inject s).writes)).mapVmcs
      (·.setIntInfo (p.inject s).intInfo)
  else s

/-- The processor is in the guest: VMX non-root operation, MOV-SS blocking free, and the bytes fetched are the guest's
(10_state.md R19). -/
def inGuest (p : Impl) (s : State) : State :=
  (((s.setVmxMode .nonRoot).setMovss (p.movssAfter s)).setCode (Memory.ofCells (p.fetchView s))).tick

/-- What follows `ChecksPassed`: the lost guest checks may still fail the entry, so may the MSR load; otherwise steps 3 to 6
in order (40_vm_entry_sequence.md R60, R69, decision D9). Log 1. -/
def continueEntry (p : Impl) (kind : EntryKind) (s : State) : State :=
  if p.lostGuestChecksPass s then
    match loadMsrs p (loadGuestState p s) with
    | some s4 => inGuest p (injectEvent p (markLaunched kind s4))
    | none => entryFailsLikeExit p .msrLoad (loadGuestState p s)
  else entryFailsLikeExit p .guestState s

/-- What each outcome does. -/
def performOutcome (p : Impl) (kind : EntryKind) (s : State) : EntryOutcome → Result
  | .invalidOpcode => raiseInvalidOpcode s
  | .generalProtection => raiseGeneralProtection s
  | .vmFailInvalid => vmFailInvalid p s
  | .vmFailValid e => vmFailValid p e s
  | .entryFailsLikeExit => .next (entryFailsLikeExit p .guestState s)
  | .checksPassed => .next (continueEntry p kind s)
  | .refuse r => .refused r

/-- `VMEntry(kind)` (40_vm_entry_sequence.md R63). -/
def vmEntry (p : Impl) (kind : EntryKind) (s : State) : Result := performOutcome p kind s (entryOutcome p kind s)

/-- `VMLAUNCH` (40_vm_entry_sequence.md R61). -/
def execVmlaunch (s : State) : Result := vmEntry impl .launch s

/-- `VMRESUME` (40_vm_entry_sequence.md R62). -/
def execVmresume (s : State) : Result := vmEntry impl .resume s

end Sys2Proof.Machine
end

