-- ==== Sys2Proof/Syntax.lean ====
section
/-! DEFINITION. The instructions, one constructor per row of spec/opcode_table.json (30_encoding.md R55): neither has an
operand, an immediate or a variant. -/

namespace Sys2Proof

/-- The instruction set in scope (00_scope.md R2, 30_encoding.md R55). -/
inductive Instr
  /-- `VMLAUNCH` (40_vm_entry_sequence.md R61). -/
  | vmlaunch
  /-- `VMRESUME` (40_vm_entry_sequence.md R62). -/
  | vmresume
deriving DecidableEq, Repr

end Sys2Proof
end

