-- ==== Sys2Proof/Machine/Dispatch.lean ====
section
/-! DEFINITION. One arm per instruction (40_vm_entry_sequence.md R61, R62). -/

namespace Sys2Proof.Machine

def exec (i : Instr) (s : State) : Host.Outcome State Fault Refusal :=
  match i with
  | .vmlaunch => Sys2Proof.Machine.execVmlaunch s
  | .vmresume => Sys2Proof.Machine.execVmresume s

end Sys2Proof.Machine
end

