-- ==== Sys2Proof/Decode.lean ====
section
/-! DEFINITION. Decoder and encoder (30_encoding.md R56, R57, R59): the two unprefixed three-byte forms and nothing else. -/

namespace Sys2Proof

/-- Why bytes are no instruction of this model. -/
inductive DecodeError
  /-- A VM-entry instruction behind one or more prefix bytes (30_encoding.md R57, 93 U14). -/
  | prefixedForm
  /-- Bytes that do not begin a VM-entry instruction (30_encoding.md R59). -/
  | notVmEntryInstruction
  /-- The bytes end inside what could still be a VM-entry instruction. -/
  | tooFewBytes
deriving DecidableEq, Repr

/-- The bytes of `VMLAUNCH` in memory order, `ENC_VMLAUNCH` (30_encoding.md R56). Log 22. -/
def encVmlaunch : List Byte := [0x0F, 0x01, 0xC2]

/-- The bytes of `VMRESUME` in memory order, `ENC_VMRESUME` (30_encoding.md R56). Log 22. -/
def encVmresume : List Byte := [0x0F, 0x01, 0xC3]

/-- The prefix bytes of 30_encoding.md R57: operand size 66H, repeat F2H and F3H, lock F0H, the six segment overrides and
REX 40H to 4FH; the values of the last two groups are the family's, with address size 67H beside them. PRESUMED, log 23. -/
def isPrefixByte (b : Byte) : Bool :=
  b == 0x66 || b == 0x67 || b == 0xF2 || b == 0xF3 || b == 0xF0 || b == 0x26 || b == 0x2E || b == 0x36 || b == 0x3E
    || b == 0x64 || b == 0x65 || (0x40 ≤ b.toNat && b.toNat ≤ 0x4F)

/-- The unprefixed forms: the instruction and the bytes after it (30_encoding.md R56). -/
def decodePlain : List Byte → Except DecodeError (Instr × List Byte)
  | b0 :: b1 :: b2 :: rest =>
    if [b0, b1, b2] = encVmlaunch then .ok (.vmlaunch, rest)
    else if [b0, b1, b2] = encVmresume then .ok (.vmresume, rest)
    else .error .notVmEntryInstruction
  | [b0, b1] => if b0 = 0x0F && b1 = 0x01 then .error .tooFewBytes else .error .notVmEntryInstruction
  | [b0] => if b0 = 0x0F then .error .tooFewBytes else .error .notVmEntryInstruction
  | [] => .error .tooFewBytes

/-- What stands behind a run of prefix bytes: a VM-entry instruction there is the prefixed form that is refused by its own
name (30_encoding.md R57). -/
def decodePrefixed : List Byte → DecodeError
  | [] => .tooFewBytes
  | b :: bs =>
    if isPrefixByte b then decodePrefixed bs
    else match decodePlain (b :: bs) with
      | .ok _ => .prefixedForm
      | .error e => e

/-- The decoder, total on any bytes: the instruction and the bytes after it, or a named error (30_encoding.md R57). -/
def decode : List Byte → Except DecodeError (Instr × List Byte)
  | [] => .error .tooFewBytes
  | b :: bs => if isPrefixByte b then .error (decodePrefixed bs) else decodePlain (b :: bs)

/-- The encoder: the bytes of an instruction in memory order (30_encoding.md R56). -/
def encode : Instr → List Byte
  | .vmlaunch => encVmlaunch
  | .vmresume => encVmresume

/-- The `n` bytes of a number, the most significant first. -/
def bytesMsbFirst : Nat → Nat → List Byte
  | 0, _ => []
  | n + 1, w => bytesMsbFirst n (w / 256) ++ [BitVec.ofNat 8 w]

/-- The bytes, in memory order, of an instruction given as spec/opcode_table.json numbers it: one word, "first byte 0F most
significant", zeros after it up to the longest instruction (3 bytes). Log 22. -/
def tableBytes (nbits w : Nat) : List Byte :=
  bytesMsbFirst ((nbits + 7) / 8) w ++ List.replicate (3 - (nbits + 7) / 8) 0

/-- The instruction the decoder reads from a word of spec/opcode_table.json. -/
def decodeTableWord (nbits w : Nat) : Option Instr :=
  match decode (tableBytes nbits w) with
  | .ok (i, _) => some i
  | .error _ => none

end Sys2Proof
end

