-- ==== Sys2Proof/Machine/Fetch.lean ====
section
/-! DEFINITION. Fetching and placing an instruction's bytes, and the name under which undecodable bytes are refused. The
spec starts from a decoded instruction (30_encoding.md R57, 20_memory.md R216); the model fetches the bytes listed in `code`
at the value of RIP. Log 27. -/

namespace Sys2Proof.Machine

/-- The bytes known from an address up, at most `n`, ending at the first one that is not known. An instruction that runs past
the top of the instruction pointer's range is read on at the addresses past the top, without wrapping: the spec is silent
(10_state.md R11, 20_memory.md R216). DESIGN CHOICE, log 41. -/
def knownBytes (code : Memory) : Nat → Nat → List Byte
  | 0, _ => []
  | n + 1, a => match code.read a with
    | some b => b :: knownBytes code n (a + 1)
    | none => []

/-- What the processor fetches: up to 15 bytes, the family's longest instruction. PRESUMED, log 27. -/
def fetch (s : State) : List Byte := knownBytes s.code 15 s.cpu.rip.toNat

/-- The refusal of bytes that are no instruction of this model (30_encoding.md R57, R59, 93 U14). -/
def refusalOf : DecodeError → Refusal
  | .prefixedForm => .prefixedForm
  | .notVmEntryInstruction => .notVmEntryInstruction
  | .tooFewBytes => .unknownInstructionBytes

/-- The state with these bytes placed where it fetches next. -/
def placeBytes (s : State) (bs : List Byte) : State := s.setCode (s.code.writeBytes s.cpu.rip.toNat bs)

end Sys2Proof.Machine
end

