-- ==== Sys2Proof/Machine/Step.lean ====
section
/-! DEFINITION. One step: fetch, decode, execute. There is nothing around an instruction: its meaning moves RIP itself
(40_vm_entry_sequence.md R75), there is no delay slot (70_reset_and_hazards.md R271) and no interrupt (R248, log 37). -/

namespace Sys2Proof.Machine

/-- One step of the machine. No debug event (single step, breakpoint) is taken before, within or after an instruction, so none
competes with the instruction's own events: 60_exceptions.md R249 and R257 give no rule for one. DESIGN CHOICE, unsafe,
log 43. -/
def step (s : State) : Host.Outcome State Fault Refusal :=
  match decode (fetch s) with
  | .ok (i, _) => exec i s
  | .error e => .refused (refusalOf e)

/-- The state with an instruction of spec/opcode_table.json placed where `step` fetches next. It changes `code` alone. -/
def State.withFetchWord (s : State) (nbits w : Nat) : State := placeBytes s (tableBytes nbits w)

end Sys2Proof.Machine
end

