-- ==== Sys2Proof/Safety.lean ====
section
/-! DEFINITION. What counts as a good state and as an entered guest, in the terms the statements use. -/

namespace Sys2Proof.Machine

/-- Every byte that physical memory lists exists and is ordinary memory (20_memory.md R45, R52). -/
def listsOrdinaryOnly (p : Impl) (m : Memory) : Prop := ∀ c ∈ m.cells, physOrdinary p c.1 = true

/-- The invariant of the machine: both byte stores are in canonical form and physical memory lists only bytes that exist
and are ordinary memory. -/
structure State.Good (s : State) : Prop where
  memWf : s.mem.wf
  codeWf : s.code.wf
  memOrdinary : listsOrdinaryOnly impl s.mem

/-- The launch state of the current VMCS, if there is one. -/
def State.launchState (s : State) : Option LaunchState := s.currentVmcs.map (·.launchState)

/-- The VM-instruction error field of the current VMCS, if there is one. -/
def State.errorField (s : State) : Option Word32 := s.currentVmcs.map (·.vmInstructionError)

/-- Every check of the spec's step 1 passes for this instruction (41_basic_checks.md R88), in VMX root operation. -/
def State.PassesStep1 (s : State) (kind : EntryKind) (v : Vmcs) : Prop :=
  s.vmxMode = .root ∧ s.cpu.mode = .other ∧ s.cpu.cpl = 0 ∧ s.currentVmcs = some v ∧ s.movssBlocking = false
    ∧ v.launchState = kind.needs

/-- The next instruction lies in range of the current mode's instruction pointer, and in 64-bit code at a canonical
address: where it does not, the spec says to refuse (10_state.md R11). -/
def State.NextInRange (s : State) : Prop :=
  match s.cpu.ipWidth with
  | .w16 => s.cpu.rip.toNat + impl.insnLen < 2 ^ 16
  | .w32 => s.cpu.rip.toNat + impl.insnLen < 2 ^ 32
  | .w64 => s.cpu.rip.toNat + impl.insnLen < 2 ^ 64
      ∧ canonical impl (s.cpu.rip + BitVec.ofNat 64 impl.insnLen) = true

/-- Bit positions of the six status flags CF, PF, AF, ZF, SF, OF (log 6). -/
def statusFlagPositions : List Nat := [0, 2, 4, 6, 7, 11]

/-- What both VM-instruction failures do beside the flag and the error number: control passes to the next instruction
(`pc <- pc + INSN_LEN`) and nothing else of the processor, the hidden state or memory changes, but for the status flags and
MOV-SS blocking, which are free, and the model's counter (40_vm_entry_sequence.md R66, R67, 93 U7). That the rest stays is
decision D1 (log 8), and which bits are the status flags is partly the family's (log 6). -/
structure PassesToNext (s t : State) : Prop where
  rip : t.cpu.rip = s.cpu.rip + BitVec.ofNat 64 impl.insnLen
  rflags : ∀ k, k ∉ statusFlagPositions → bit t.cpu.rflags k = bit s.cpu.rflags k
  cpu : t.cpu = { s.cpu with rip := t.cpu.rip, rflags := t.cpu.rflags }
  vmxMode : t.vmxMode = s.vmxMode
  monitor : t.monitorArmed = s.monitorArmed
  mem : ∀ a, t.mem.read a = s.mem.read a
  code : t.code = s.code

/-- `VMfailInvalid` (40_vm_entry_sequence.md R66): RFLAGS.CF is 1, there is still no current VMCS. -/
structure FailsInvalid (s t : State) : Prop where
  passes : PassesToNext s t
  cf : bit t.cpu.rflags 0 = true
  vmcs : t.currentVmcs = none

/-- `VMfailValid(e)` on the current VMCS `v` (40_vm_entry_sequence.md R67): RFLAGS.ZF is 1, the VM-instruction error field
holds `e`, no other field of the VMCS changes, the launch state among them. -/
structure FailsValid (e : Word32) (v : Vmcs) (s t : State) : Prop where
  passes : PassesToNext s t
  zf : bit t.cpu.rflags 6 = true
  vmcs : t.currentVmcs = some { v with vmInstructionError := e }

/-- `EntryFailsLikeExit(cause)` on the current VMCS `v`, taken in state `u` of the entry that began in `s`
(40_vm_entry_sequence.md R68): the launch state, the VM-instruction error field, the controls and both state areas stay, VMX
root operation goes on, the processor is the free load from the host-state area with the CR0.NW and CR0.CD that were in
force, and memory stays but for the free bytes of the lost text. That the model goes on, that VMX root operation goes on and
that the other parts of the VMCS stay are the model's (logs 2, 35, 34). -/
structure FailsLikeExit (p : Impl) (cause : FailureCause) (u : State) (v : Vmcs) (s t : State) : Prop where
  vmcs : t.currentVmcs = some { v with exitInfo := p.exitInfo cause u }
  root : t.vmxMode = .root
  cpu : t.cpu = s.cpu.keepCacheBits (p.hostLoad cause u)
  mem : ∀ a, a ∉ (p.exitWrites cause u).map (·.1) → t.mem.read a = s.mem.read a

/-- What the injection of an event leaves, in the state in which it takes place, where the MSR load succeeds (lost, 91 N8). -/
def eventInjection (p : Impl) (kind : EntryKind) (s : State) : Option Injection :=
  (loadMsrs p (loadGuestState p s)).map fun s4 => p.inject (markLaunched kind s4)

/-- The bytes that the injection of an event writes. -/
def eventWrites (p : Impl) (kind : EntryKind) (s : State) : List Host.Cell :=
  ((eventInjection p kind s).map (·.writes)).getD []

/-- A completed VM entry on the current VMCS `v` (40_vm_entry_sequence.md R60): VMX non-root operation, monitoring cleared,
launch state launched, CR0.NW and CR0.CD those in force before; with no MSR to load and no event to inject, the processor is
the free load of guest state; the rest of the VMCS stays but for the interruption-information field of an injected event,
and memory stays but for the bytes that injection writes. The order and the frame of the lost steps are the model's
(logs 1, 31 to 34, 42). -/
structure EntersGuest (p : Impl) (kind : EntryKind) (v : Vmcs) (s t : State) : Prop where
  nonRoot : t.vmxMode = .nonRoot
  monitor : t.monitorArmed = false
  vmcs : ∃ info, t.currentVmcs
    = some { v with launchState := .launched, ctl := { v.ctl with entryIntInfo := info } }
      ∧ (infoValid v.ctl.entryIntInfo = false → info = v.ctl.entryIntInfo)
      ∧ (infoValid v.ctl.entryIntInfo = true → some info = (eventInjection p kind s).map (·.intInfo))
  cpu : infoValid v.ctl.entryIntInfo = false → v.ctl.entryMsrLoad.count = 0 →
    t.cpu = s.cpu.keepCacheBits (p.guestLoad s)
  mem : ∀ a, (infoValid v.ctl.entryIntInfo = true → a ∉ (eventWrites p kind s).map (·.1)) → t.mem.read a = s.mem.read a
  cacheBits : t.cpu.cr0 &&& cr0CacheBits = s.cpu.cr0 &&& cr0CacheBits

/-- Every check of step 2 passes and the TPR check reads ordinary memory only (43_host_state_checks.md R139). -/
structure PassesStep2 (p : Impl) (s : State) (v : Vmcs) : Prop where
  ordinary : readsDeviceMemory p s.mem v = false
  controls : controlChecksPass p s.mem v = true
  host : hostChecksPass p v = true
  addrSpace : addrSpaceChecksPass p s.cpu.lma v = true

/-- The kind of VM entry that an instruction invokes (40_vm_entry_sequence.md R61, R62). -/
def kindOf : Instr → EntryKind
  | .vmlaunch => .launch
  | .vmresume => .resume

end Sys2Proof.Machine
end

