-- ==== Sys2Proof/WellFormed.lean ====
section
/-! DEFINITION. Well-formed terms. An instruction has no operand (30_encoding.md R55), so each one is well formed; the terms
that can be ill formed are the implementation's parameters, and `Impl.wf` holds every constraint the spec puts on them. -/

namespace Sys2Proof

/-- Every instruction is well formed: there is no operand to be out of range (30_encoding.md R55). -/
def Instr.wf : Instr → Bool
  | .vmlaunch => true
  | .vmresume => true

/-- Reserved settings agree with each other: no bit must be both 1 and 0 (42_control_checks.md R90). -/
def masksDisjoint {w : Nat} (must1 must0 : BitVec w) : Bool := must1 &&& must0 == 0

/-- A named control is a bit of its word that lies in neither mask (42_control_checks.md R91, R92, R93). -/
def controlIsFree (must1 must0 : Word32) (pos : Nat) : Bool :=
  pos < 32 && !must1.getLsbD pos && !must0.getLsbD pos

/-- `PAW` lies in 32..52 (00_scope.md R5). -/
def Impl.pawOk (p : Impl) : Bool := 32 ≤ p.paw && p.paw ≤ 52

/-- `LAW` selects a non-empty part of a 64-bit address (00_scope.md R9). -/
def Impl.lawOk (p : Impl) : Bool := 1 ≤ p.law && p.law ≤ 64

/-- The masks of the four control words, of CR0 and of CR4 agree (42_control_checks.md R90 to R93). -/
def Impl.masksOk (p : Impl) : Bool :=
  masksDisjoint p.pinMust1 p.pinMust0 && masksDisjoint p.procMust1 p.procMust0
    && masksDisjoint p.exitMust1 p.exitMust0 && masksDisjoint p.entryMust1 p.entryMust0
    && masksDisjoint p.cr0Must1 p.cr0Must0 && masksDisjoint p.cr4Must1 p.cr4Must0

/-- CR0.NW (bit 29) and CR0.CD (bit 30) lie in neither mask (43_host_state_checks.md R121). -/
def Impl.cacheBitsFree (p : Impl) : Bool :=
  !(p.cr0Must1 ||| p.cr0Must0).getLsbD 29 && !(p.cr0Must1 ||| p.cr0Must0).getLsbD 30

/-- The named controls are free bits, the two of the processor-based word distinct (decision D15). -/
def Impl.controlsOk (p : Impl) : Bool :=
  controlIsFree p.procMust1 p.procMust0 p.ctlActivateIoBitmaps
    && controlIsFree p.procMust1 p.procMust0 p.ctlUseTprShadow
    && p.ctlActivateIoBitmaps != p.ctlUseTprShadow
    && controlIsFree p.exitMust1 p.exitMust0 p.ctlHostAddrSpaceSize
    && controlIsFree p.entryMust1 p.entryMust0 p.ctlIa32eModeGuest

/-- The five VM-instruction error numbers (41_basic_checks.md R87). -/
def Impl.errorNumbers (p : Impl) : List Word32 :=
  [p.errMovss, p.errLaunchNotClear, p.errResumeNotLaunched, p.errEntryCtrl, p.errEntryHost]

/-- The error numbers are pairwise distinct (41_basic_checks.md R87). -/
def Impl.errorsOk (p : Impl) : Bool := decide p.errorNumbers.Nodup

/-- The six interruption-type codes of decision D16. -/
def Impl.typeCodes (p : Impl) : List (BitVec 3) :=
  [p.itypeExtInt, p.itypeNmi, p.itypeHwExc, p.itypeSwInt, p.itypePrivSwExc, p.itypeSwExc]

/-- The codes are distinct and none is the reserved 1 or 7 (decision D16, 42_control_checks.md R95). -/
def Impl.typesOk (p : Impl) : Bool := decide p.typeCodes.Nodup && p.typeCodes.all fun c => c != 1 && c != 7

/-- Every constraint of the spec on the parameters (00_scope.md R5). -/
def Impl.wf (p : Impl) : Bool :=
  p.pawOk && p.lawOk && p.masksOk && p.cacheBitsFree && p.controlsOk && p.errorsOk && p.typesOk

end Sys2Proof
end

