-- ==== Sys2Proof/Certificates/Slice0/Obligations.lean ====
section
/-! DEFINITION. The statements for the provers, in the order of spec/. `Instr` has the two instructions `VMLAUNCH` and
`VMRESUME`, so a statement for every `i : Instr` names both. "The model's" marks what a log entry and not the spec says. -/

open Sys2Proof Sys2Proof.Machine

/-! ### Decoding, fetching, the step -/

/-- The words of the opcode table and the bytes of R56 decode to their instructions; the neighbours `VMCALL` and `VMXOFF` of
R59 do not decode, nor does a form behind an operand-size prefix (R57). -/
def Obligations.TableWordsDecode : Prop :=
  decodeTableWord 24 0x0F01C2 = some .vmlaunch ∧ decodeTableWord 24 0x0F01C3 = some .vmresume
    ∧ decode [0x0F, 0x01, 0xC2] = .ok (.vmlaunch, []) ∧ decode [0x0F, 0x01, 0xC3] = .ok (.vmresume, [])
    ∧ decode [0x0F, 0x01, 0xC1] = .error .notVmEntryInstruction
    ∧ decode [0x0F, 0x01, 0xC4] = .error .notVmEntryInstruction
    ∧ decode [0x66, 0x0F, 0x01, 0xC2] = .error .prefixedForm

/-- Decode and encode agree, in both directions: bytes decode to an instruction exactly when they begin with its encoding
(R56, R57, R59). -/
def Obligations.DecodeReadsExactlyTheEncodings : Prop :=
  ∀ bs i rest, decode bs = .ok (i, rest) ↔ bs = encode i ++ rest

/-- A VM-entry instruction behind any run of prefix bytes is refused by its own name (R57). Which bytes are prefixes is
partly the model's (log 23). -/
def Obligations.PrefixedFormsAreRefused : Prop :=
  ∀ ps i rest, ps ≠ [] → (∀ b ∈ ps, isPrefixByte b = true) → decode (ps ++ (encode i ++ rest)) = .error .prefixedForm

/-- A step at bytes that decode to an instruction is that instruction's execution and nothing around it; at other bytes it is
a refusal (R57, R59). That bytes are fetched from `code` at RIP is the model's (log 27). -/
def Obligations.StepRunsTheDecodedInstruction : Prop :=
  (∀ s i rest, decode (fetch s) = .ok (i, rest) → step s = exec i s)
    ∧ ∀ s e, decode (fetch s) = .error e → step s = .refused (refusalOf e)

/-- An instruction placed where the machine fetches next is what the next step runs, whatever the state, and placing it
changes `code` alone (the model's, log 27). -/
def Obligations.PlacedWordIsRunNext : Prop :=
  (∀ s : State, step (s.withFetchWord 24 0x0F01C2) = exec .vmlaunch (s.withFetchWord 24 0x0F01C2))
    ∧ (∀ s : State, step (s.withFetchWord 24 0x0F01C3) = exec .vmresume (s.withFetchWord 24 0x0F01C3))
    ∧ ∀ (s : State) nbits w, s.withFetchWord nbits w = { s with code := (s.withFetchWord nbits w).code }

/-! ### Memory and the invariant -/

/-- `MemReadPhys(addr, n)` answers exactly the `n` bytes from `addr` up, and only where each of them exists and is ordinary
memory (R45, R48). -/
def Obligations.PhysicalReadGivesTheBytes : Prop :=
  ∀ p m a n bs, memReadPhys p m a n = some bs
    ↔ (∀ k, k < n → physOrdinary p (a + k) = true) ∧ bs = (List.range n).map fun k => physByte p m (a + k)

/-- The state after reset satisfies the invariant. -/
def Obligations.ResetIsGood : Prop := State.reset.Good

/-- Every step from every state keeps the invariant: both byte stores canonical, physical memory listing only bytes that exist
and are ordinary memory (R45, R52). -/
def Obligations.EveryStepKeepsGood : Prop := ∀ s t : State, s.Good → step s = .next t → t.Good

/-! ### The implementation's parameters -/

/-- Whatever the opaque constants are, the machine's parameters meet every constraint of the spec: PAW, disjoint masks clear
of the named controls and of CR0.NW and CR0.CD, distinct error numbers, legal distinct type codes (R5, R87, R90, R91, R121). -/
def Obligations.ImplementationIsWithinTheSpec : Prop := impl.wf = true

/-- Canonical means that bits 63 down to LAW-1 are all equal (R9): the spec's decision D6, from general knowledge (log 12). -/
def Obligations.CanonicalMeansUpperBitsEqual : Prop :=
  ∀ p a, Impl.lawOk p = true →
    (canonical p a = true ↔ ∀ k, p.law - 1 ≤ k → k < 64 → bit a k = bit a (p.law - 1))

/-! ### Step 1 -/

/-- Check 1 (R81). -/
def Obligations.WrongModeRaisesInvalidOpcode : Prop :=
  ∀ i s, s.vmxMode = .root → s.cpu.mode = .virtual8086 ∨ s.cpu.mode = .compatibility →
    ∃ rip, exec i s = .fault (.invalidOpcode rip)

/-- Check 2 (R82). -/
def Obligations.NonzeroCplRaisesGeneralProtection : Prop :=
  ∀ i s, s.vmxMode = .root → s.cpu.mode = .other → s.cpu.cpl ≠ 0 → ∃ rip e, exec i s = .fault (.generalProtection rip e)

/-- No other exception is raised (R240). What a fault carries is the model's, from the spec's general knowledge (log 3): the
address of the instruction, vector 6 without and vector 13 with an error code, which is 0 (R241, R242). -/
def Obligations.FaultsReportTheInstruction : Prop :=
  ∀ i s f, exec i s = .fault f →
    (f = .invalidOpcode s.cpu.rip ∧ faultVector f = 6 ∧ faultErrorCode f = none)
      ∨ (f = .generalProtection s.cpu.rip 0 ∧ faultVector f = 13 ∧ faultErrorCode f = some 0)

/-- Check 3: without a current VMCS both instructions complete with RFLAGS.CF set and go on at the next instruction (R83). -/
def Obligations.NoCurrentVmcsFailsInvalid : Prop :=
  ∀ i s, s.vmxMode = .root → s.cpu.mode = .other → s.cpu.cpl = 0 → s.currentVmcs = none → s.NextInRange →
    ∃ t, exec i s = .next t ∧ bit t.cpu.rflags 0 = true ∧ t.cpu.rip = s.cpu.rip + BitVec.ofNat 64 impl.insnLen

/-- Check 4a: MOV-SS blocking fails both instructions with its own number, whatever the launch state (R84). -/
def Obligations.MovSsBlockingFailsValid : Prop :=
  ∀ i s v, s.vmxMode = .root → s.cpu.mode = .other → s.cpu.cpl = 0 → s.currentVmcs = some v → s.movssBlocking = true →
    s.NextInRange → ∃ t, exec i s = .next t ∧ bit t.cpu.rflags 6 = true ∧ t.errorField = some impl.errMovss
      ∧ t.cpu.rip = s.cpu.rip + BitVec.ofNat 64 impl.insnLen

/-- Check 4b: `VMLAUNCH` on a VMCS that is not clear (R85). -/
def Obligations.LaunchOfLaunchedVmcsFails : Prop :=
  ∀ s v, s.vmxMode = .root → s.cpu.mode = .other → s.cpu.cpl = 0 → s.currentVmcs = some v → s.movssBlocking = false →
    v.launchState ≠ .clear → s.NextInRange →
    ∃ t, exec .vmlaunch s = .next t ∧ bit t.cpu.rflags 6 = true ∧ t.errorField = some impl.errLaunchNotClear
      ∧ t.launchState = s.launchState ∧ t.cpu.rip = s.cpu.rip + BitVec.ofNat 64 impl.insnLen

/-- Check 4c: `VMRESUME` on a VMCS that is not launched (R86). -/
def Obligations.ResumeOfClearVmcsFails : Prop :=
  ∀ s v, s.vmxMode = .root → s.cpu.mode = .other → s.cpu.cpl = 0 → s.currentVmcs = some v → s.movssBlocking = false →
    v.launchState ≠ .launched → s.NextInRange →
    ∃ t, exec .vmresume s = .next t ∧ bit t.cpu.rflags 6 = true ∧ t.errorField = some impl.errResumeNotLaunched
      ∧ t.launchState = s.launchState ∧ t.cpu.rip = s.cpu.rip + BitVec.ofNat 64 impl.insnLen

/-- The frame of both VM-instruction failures, whatever check failed: nothing but the flag, RIP, the error number and the free
values changes (R66, R67). That state which no outcome names stays is the spec's decision D1 (log 8, a design choice), and that
every bit of RFLAGS but six stays rests on the presumed positions of PF, AF, SF and OF (log 6). -/
def Obligations.VmFailuresChangeNothingElse : Prop :=
  ∀ i s t, exec i s = .next t →
    (entryOutcome impl (kindOf i) s = .vmFailInvalid → FailsInvalid s t)
      ∧ ∀ e v, entryOutcome impl (kindOf i) s = .vmFailValid e → s.currentVmcs = some v → FailsValid e v s t

/-- Step 1 passes exactly when the outcome is none of its own five (R80, R88, R89): the outcomes of later steps are told apart
from those of step 1, which takes the five error numbers to be distinct (R87). -/
def Obligations.Step1PassesExactlyWhen : Prop :=
  ∀ kind s, s.vmxMode = .root →
    ((∃ v, s.PassesStep1 kind v) ↔
      entryOutcome impl kind s ∉ [.invalidOpcode, .generalProtection, .vmFailInvalid, .vmFailValid impl.errMovss,
        .vmFailValid (launchStateError impl kind)])

/-- A failure that would pass control past the end of the instruction pointer's range is refused: without a current VMCS, with
MOV-SS blocking, in the wrong launch state, or when a check of step 2 fails (R11). -/
def Obligations.FailurePastTheTopIsRefused : Prop :=
  ∀ i s, s.vmxMode = .root → s.cpu.mode = .other → s.cpu.cpl = 0 → ¬ s.NextInRange →
    (s.currentVmcs = none ∨ s.movssBlocking = true ∨ ∃ v, s.currentVmcs = some v ∧ (v.launchState ≠ (kindOf i).needs
      ∨ (readsDeviceMemory impl s.mem v = false
          ∧ (controlChecksPass impl s.mem v && hostChecksPass impl v && addrSpaceChecksPass impl s.cpu.lma v) = false))) →
    exec i s = .refused .nextRipOutOfRange

/-- Outside VMX root operation both instructions are refused, before any check (R19). -/
def Obligations.OutsideRootOperationIsRefused : Prop :=
  ∀ i s, s.vmxMode ≠ .root → exec i s = .refused .outsideVmxRootOperation

/-- Under `VMFAIL_OTHER_FLAGS = clear` the flag that is set is the only status flag left (R66, R67). -/
def Obligations.ClearedFlagsLeaveOne : Prop :=
  ∀ p kind s t, p.vmfailOtherFlags = .clear → vmEntry p kind s = .next t →
    (entryOutcome p kind s = .vmFailInvalid → ∀ k ∈ statusFlagPositions, bit t.cpu.rflags k = (k == 0))
      ∧ ∀ e, entryOutcome p kind s = .vmFailValid e → ∀ k ∈ statusFlagPositions, bit t.cpu.rflags k = (k == 6)

/-! ### Step 2 -/

/-- Each reserved bit of the four control words holds its one proper value, bit by bit, and no other bit is looked at
(R90 to R93); the CR3-target count is at most 4 on this machine (R94). That a reserved setting is two masks is the spec's
decision D14 (log 14), that the bound is 4 its decision D23 for this edition (log 18). -/
def Obligations.ReservedControlBitsByBit : Prop :=
  (∀ p v,
    (pinBasedOk p v = true ↔ ∀ k, k < 32 → (bit p.pinMust1 k = true → bit v.ctl.pinBased k = true)
      ∧ (bit p.pinMust0 k = true → bit v.ctl.pinBased k = false))
    ∧ (procBasedOk p v = true ↔ ∀ k, k < 32 → (bit p.procMust1 k = true → bit v.ctl.procBased k = true)
      ∧ (bit p.procMust0 k = true → bit v.ctl.procBased k = false))
    ∧ (exitControlsOk p v = true ↔ ∀ k, k < 32 → (bit p.exitMust1 k = true → bit v.ctl.exit k = true)
      ∧ (bit p.exitMust0 k = true → bit v.ctl.exit k = false))
    ∧ (entryControlsOk p v = true ↔ ∀ k, k < 32 → (bit p.entryMust1 k = true → bit v.ctl.entry k = true)
      ∧ (bit p.entryMust0 k = true → bit v.ctl.entry k = false)))
    ∧ ∀ v, cr3TargetCountOk impl v = true ↔ v.ctl.cr3TargetCount.toNat ≤ 4

/-- The six conditions on the event to inject, each by itself, and their gate: with the valid bit 0 they pass whatever the
three fields hold (R95 to R100). The codes of the types are parameters (decision D16, log 16). -/
def Obligations.EventInjectionConditions : Prop :=
  (∀ info, injectionTypeOk info = true ↔ infoType info ≠ 1 ∧ infoType info ≠ 7)
    ∧ (∀ p info, injectionVectorOk p info = true ↔
      (infoType info = p.itypeNmi → slice info 7 0 = 2) ∧ (infoType info = p.itypeHwExc → slice info 7 0 ≤ 31))
    ∧ (∀ p info, injectionErrorBitOk p info = true ↔
      (bit info 11 = true ↔ infoType info = p.itypeHwExc ∧ slice info 7 0 ∈ [8, 10, 11, 12, 13, 14, 17]))
    ∧ (∀ info, injectionReservedOk info = true ↔ ∀ k, 12 ≤ k → k ≤ 30 → bit info k = false)
    ∧ (∀ info code, injectionErrorCodeOk info code = true ↔
      (bit info 11 = true → ∀ k, 15 ≤ k → k ≤ 31 → bit code k = false))
    ∧ (∀ p info len, injectionLengthOk p info len = true ↔
      (infoType info = p.itypeSwInt ∨ infoType info = p.itypeSwExc ∨ infoType info = p.itypePrivSwExc →
        1 ≤ len.toNat ∧ len.toNat ≤ 15))
    ∧ ∀ p v, eventInjectionOk p v = true ↔ (bit v.ctl.entryIntInfo 31 = true →
      injectionTypeOk v.ctl.entryIntInfo = true ∧ injectionVectorOk p v.ctl.entryIntInfo = true
        ∧ injectionErrorBitOk p v.ctl.entryIntInfo = true ∧ injectionReservedOk v.ctl.entryIntInfo = true
        ∧ injectionErrorCodeOk v.ctl.entryIntInfo v.ctl.entryExcErrorCode = true
        ∧ injectionLengthOk p v.ctl.entryIntInfo v.ctl.entryInsnLen = true)

/-- The I/O-bitmap and virtual-APIC page addresses are 4-KByte aligned and below 2^PAW where their control is 1, and are not
looked at where it is 0 (R101, R102). -/
def Obligations.PageAddressConditions : Prop :=
  ∀ p v,
    (ioBitmapsOk p v = true ↔ (activateIoBitmaps p v = true →
      (v.ctl.ioBitmapA.toNat % 4096 = 0 ∧ v.ctl.ioBitmapA.toNat < 2 ^ p.paw)
        ∧ v.ctl.ioBitmapB.toNat % 4096 = 0 ∧ v.ctl.ioBitmapB.toNat < 2 ^ p.paw))
    ∧ (virtualApicPageOk p v = true ↔ (useTprShadow p v = true →
      v.ctl.virtualApicPage.toNat % 4096 = 0 ∧ v.ctl.virtualApicPage.toNat < 2 ^ p.paw))

/-- An MSR area with a non-zero count is 16-byte aligned and lies wholly below 2^PAW, without wrapping; with count 0 its
address is not looked at (R103, R270). The start and end checks of each of the three areas of the VMCS say so of that area
(R104 to R109). -/
def Obligations.MsrAreaLiesBelowTheTop : Prop :=
  (∀ p m, (msrAreaStartOk p m = true ∧ msrAreaEndOk p m = true)
    ↔ (m.count ≠ 0 → m.addr.toNat % 16 = 0 ∧ m.addr.toNat + 16 * m.count.toNat ≤ 2 ^ p.paw))
    ∧ ∀ p v,
      (exitMsrStoreStartOk p v = true ↔ (v.ctl.exitMsrStore.count ≠ 0 →
        v.ctl.exitMsrStore.addr.toNat % 16 = 0 ∧ v.ctl.exitMsrStore.addr.toNat < 2 ^ p.paw))
      ∧ (exitMsrStoreEndOk p v = true ↔ (v.ctl.exitMsrStore.count ≠ 0 →
        v.ctl.exitMsrStore.addr.toNat + 16 * v.ctl.exitMsrStore.count.toNat ≤ 2 ^ p.paw))
      ∧ (exitMsrLoadStartOk p v = true ↔ (v.ctl.exitMsrLoad.count ≠ 0 →
        v.ctl.exitMsrLoad.addr.toNat % 16 = 0 ∧ v.ctl.exitMsrLoad.addr.toNat < 2 ^ p.paw))
      ∧ (exitMsrLoadEndOk p v = true ↔ (v.ctl.exitMsrLoad.count ≠ 0 →
        v.ctl.exitMsrLoad.addr.toNat + 16 * v.ctl.exitMsrLoad.count.toNat ≤ 2 ^ p.paw))
      ∧ (entryMsrLoadStartOk p v = true ↔ (v.ctl.entryMsrLoad.count ≠ 0 →
        v.ctl.entryMsrLoad.addr.toNat % 16 = 0 ∧ v.ctl.entryMsrLoad.addr.toNat < 2 ^ p.paw))
      ∧ (entryMsrLoadEndOk p v = true ↔ (v.ctl.entryMsrLoad.count ≠ 0 →
        v.ctl.entryMsrLoad.addr.toNat + 16 * v.ctl.entryMsrLoad.count.toNat ≤ 2 ^ p.paw))

/-- The TPR check compares bits 3:0 of the threshold with bits 7:4 of byte 128 of the page in ordinary memory, where the page
address is a valid place to read (R111, R49). -/
def Obligations.TprThresholdComparison : Prop :=
  ∀ p m v, readsDeviceMemory p m v = false →
    (tprThresholdOk p m v = true ↔ (useTprShadow p v = true → virtualApicPageOk p v = true →
      slice v.ctl.tprThreshold 3 0 ≤ slice (physByte p m (v.ctl.virtualApicPage.toNat + 128)) 7 4))

/-- A virtual-APIC page that is not ordinary memory is refused, whatever else the VMCS holds (R48). -/
def Obligations.DevicePageIsRefused : Prop :=
  ∀ p kind s v, s.PassesStep1 kind v → useTprShadow p v = true → virtualApicPageOk p v = true →
    p.isRam (v.ctl.virtualApicPage.toNat + 128) = false → vmEntry p kind s = .refused .virtualApicPageNotMemory

/-- Fields whose control, count or valid bit is 0 do not matter to the control checks (R95, R101, R102, R103, R111). -/
def Obligations.DisabledFieldsDoNotMatter : Prop :=
  ∀ p m v,
    (useTprShadow p v = false → ∀ page threshold,
      controlChecksPass p m { v with ctl := { v.ctl with virtualApicPage := page, tprThreshold := threshold } }
        = controlChecksPass p m v)
    ∧ (activateIoBitmaps p v = false → ∀ a b,
      controlChecksPass p m { v with ctl := { v.ctl with ioBitmapA := a, ioBitmapB := b } } = controlChecksPass p m v)
    ∧ (v.ctl.exitMsrStore.count = 0 ∧ v.ctl.exitMsrLoad.count = 0 ∧ v.ctl.entryMsrLoad.count = 0 → ∀ a b c,
      controlChecksPass p m { v with ctl := { v.ctl with exitMsrStore := ⟨a, 0⟩, exitMsrLoad := ⟨b, 0⟩, entryMsrLoad := ⟨c, 0⟩ } }
        = controlChecksPass p m v)
    ∧ (infoValid v.ctl.entryIntInfo = false → ∀ info code len, infoValid info = false →
      controlChecksPass p m
          { v with ctl := { v.ctl with entryIntInfo := info, entryExcErrorCode := code, entryInsnLen := len } }
        = controlChecksPass p m v)

/-- Host and guest CR0 must set bits 0, 5 and 31 and CR4 bit 13, and no other bit of them is looked at by these checks
(R121, R122, R141, R142). That no bit must be 0 is the spec's decision D22 (log 18). -/
def Obligations.ControlRegisterBitsRequired : Prop :=
  ∀ v, hostCr0Ok impl v = (bit v.host.cr0 0 && bit v.host.cr0 5 && bit v.host.cr0 31)
    ∧ hostCr4Ok impl v = bit v.host.cr4 13
    ∧ guestCr0Ok impl v = (bit v.guest.cr0 0 && bit v.guest.cr0 5 && bit v.guest.cr0 31)
    ∧ guestCr4Ok impl v = bit v.guest.cr4 13

/-- For a PAW in 32..52 the CR3 check is that the field is within the physical-address width, of the host field and of the
guest field (R123, R144). -/
def Obligations.Cr3CheckIsWithinPaw : Prop :=
  (∀ p x, Impl.pawOk p = true → cr3Ok p x = withinPaw p x.toNat)
    ∧ ∀ p v, Impl.pawOk p = true →
      hostCr3Ok p v = withinPaw p v.host.cr3.toNat ∧ guestCr3Ok p v = withinPaw p v.guest.cr3.toNat

/-- The host's IA32_SYSENTER addresses and base addresses are canonical, RPL and TI of its seven selectors are 0, CS and TR are
not 0000H, and neither is SS unless "host address-space size" is 1 (R124 to R128). -/
def Obligations.HostAreaConditions : Prop :=
  ∀ p v,
    (hostSysenterOk p v = true ↔ canonical p v.host.sysenterEsp = true ∧ canonical p v.host.sysenterRip = true)
    ∧ (hostSelectorBitsOk v = true ↔
      ∀ sel ∈ [v.host.csSel, v.host.ssSel, v.host.dsSel, v.host.esSel, v.host.fsSel, v.host.gsSel, v.host.trSel],
        bit sel 0 = false ∧ bit sel 1 = false ∧ bit sel 2 = false)
    ∧ (hostCsTrNotNull v = true ↔ v.host.csSel ≠ 0x0000 ∧ v.host.trSel ≠ 0x0000)
    ∧ (hostSsOk p v = true ↔ (hostAddrSpaceSize p v = false → v.host.ssSel ≠ 0x0000))
    ∧ (hostBasesOk p v = true ↔
      ∀ a ∈ [v.host.fsBase, v.host.gsBase, v.host.gdtrBase, v.host.idtrBase, v.host.trBase], canonical p a = true)

/-- The checks on address-space size, by the value of "host address-space size" (R131, R133, R134, R136, R137). -/
def Obligations.AddressSpaceConditions : Prop :=
  ∀ p lma v,
    (guestModeFitsLma p lma v = true ↔ (lma = false → ia32eModeGuest p v = false))
    ∧ (guestModeFitsHost p v = true ↔ (hostAddrSpaceSize p v = false → ia32eModeGuest p v = false))
    ∧ (hostRip32Ok p v = true ↔ (hostAddrSpaceSize p v = false → v.host.rip.toNat < 2 ^ 32))
    ∧ (hostPaeOk p v = true ↔ (hostAddrSpaceSize p v = true → bit v.host.cr4 5 = true))
    ∧ (hostRip64Ok p v = true ↔ (hostAddrSpaceSize p v = true → canonical p v.host.rip = true))

/-- A CS or TR host selector that passes is at least 0008H (R125, R126). -/
def Obligations.HostSelectorsAreAtLeastEight : Prop :=
  ∀ v, hostSelectorBitsOk v = true → hostCsTrNotNull v = true → 8 ≤ v.host.csSel.toNat ∧ 8 ≤ v.host.trSel.toNat

/-- An IA-32e mode guest passes the address-space checks only on a processor in IA-32e mode with a 64-bit host, and then the
host has CR4.PAE and a canonical RIP (R135). -/
def Obligations.Ia32eGuestNeedsLongModeHost : Prop :=
  ∀ p lma v, addrSpaceChecksPass p lma v = true → ia32eModeGuest p v = true →
    lma = true ∧ hostAddrSpaceSize p v = true ∧ bit v.host.cr4 5 = true ∧ canonical p v.host.rip = true

/-- When control checks alone fail, both instructions complete as `VMfailValid` with the number of the control class (R112).
That nothing else changes rests on decision D1 (log 8) and on the presumed positions of the status flags (log 6). -/
def Obligations.ControlFailureReportsItsClass : Prop :=
  ∀ i s v, s.PassesStep1 (kindOf i) v → s.NextInRange → readsDeviceMemory impl s.mem v = false →
    controlChecksPass impl s.mem v = false → hostChecksPass impl v = true → addrSpaceChecksPass impl s.cpu.lma v = true →
    ∃ t, exec i s = .next t ∧ FailsValid impl.errEntryCtrl v s t

/-- When host-state checks alone fail, both instructions complete as `VMfailValid` with the number of that class (R129).
That nothing else changes rests on decision D1 (log 8) and on the presumed positions of the status flags (log 6). -/
def Obligations.HostFailureReportsItsClass : Prop :=
  ∀ i s v, s.PassesStep1 (kindOf i) v → s.NextInRange → readsDeviceMemory impl s.mem v = false →
    controlChecksPass impl s.mem v = true → hostChecksPass impl v = false → addrSpaceChecksPass impl s.cpu.lma v = true →
    ∃ t, exec i s = .next t ∧ FailsValid impl.errEntryHost v s t

/-- When any check of step 2 fails, both instructions complete as `VMfailValid` with one of the two numbers (R70, R139).
That nothing else changes rests on decision D1 (log 8) and on the presumed positions of the status flags (log 6). -/
def Obligations.AnyStep2FailureFailsValid : Prop :=
  ∀ i s v, s.PassesStep1 (kindOf i) v → s.NextInRange → readsDeviceMemory impl s.mem v = false →
    (controlChecksPass impl s.mem v && hostChecksPass impl v && addrSpaceChecksPass impl s.cpu.lma v) = false →
    ∃ e t, e ∈ [impl.errEntryCtrl, impl.errEntryHost] ∧ exec i s = .next t ∧ FailsValid e v s t

/-- A reported number of step 2 is justified: its class has a failed check, or a check of §4.2.5 failed (R63, R70, R138). -/
def Obligations.ReportedErrorIsJustified : Prop :=
  ∀ p kind s v e, Impl.errorsOk p = true → s.PassesStep1 kind v → entryOutcome p kind s = .vmFailValid e →
    (e = p.errEntryCtrl ∧ (controlChecksPass p s.mem v = false ∨ addrSpaceChecksPass p s.cpu.lma v = false))
      ∨ (e = p.errEntryHost ∧ (hostChecksPass p v = false ∨ addrSpaceChecksPass p s.cpu.lma v = false))

/-- What each class of checks consists of, no check left out and none added: the controls (R112), host state (R129),
address-space size (R138), the guest registers (R151) and the guest segments (R210). -/
def Obligations.ClassesAreTheirChecks : Prop :=
  ∀ p s m lma v,
    (controlChecksPass p m v = true ↔
      pinBasedOk p v = true ∧ procBasedOk p v = true ∧ exitControlsOk p v = true ∧ entryControlsOk p v = true
      ∧ cr3TargetCountOk p v = true ∧ eventInjectionOk p v = true ∧ ioBitmapsOk p v = true ∧ virtualApicPageOk p v = true
      ∧ exitMsrStoreStartOk p v = true ∧ exitMsrStoreEndOk p v = true ∧ exitMsrLoadStartOk p v = true
      ∧ exitMsrLoadEndOk p v = true ∧ entryMsrLoadStartOk p v = true ∧ entryMsrLoadEndOk p v = true
      ∧ tprThresholdOk p m v = true)
    ∧ (hostChecksPass p v = true ↔
      hostCr0Ok p v = true ∧ hostCr4Ok p v = true ∧ hostCr3Ok p v = true ∧ hostSysenterOk p v = true
      ∧ hostSelectorBitsOk v = true ∧ hostCsTrNotNull v = true ∧ hostSsOk p v = true ∧ hostBasesOk p v = true)
    ∧ (addrSpaceChecksPass p lma v = true ↔
      guestModeFitsLma p lma v = true ∧ guestModeFitsHost p v = true ∧ hostRip32Ok p v = true ∧ hostPaeOk p v = true
      ∧ hostRip64Ok p v = true)
    ∧ (guestRegisterChecksPass p v = true ↔
      guestCr0Ok p v = true ∧ guestCr4Ok p v = true ∧ guestPaeOk p v = true ∧ guestCr3Ok p v = true ∧ guestDr7Ok v = true
      ∧ guestDebugctlOk p v = true ∧ guestSysenterOk p v = true ∧ guestTableBasesOk p v = true
      ∧ guestTableLimitsOk v = true)
    ∧ (guestSegmentChecksPass p s v = true ↔ guestSegmentRulesOk p v = true ∧ optionalReservedHighOk p s v = true)

/-! ### Step 3 -/

/-- The checks on guest CR4.PAE, DR7, IA32_DEBUGCTL, the IA32_SYSENTER addresses, GDTR and IDTR (R143, R145 to R149). Which
bits of IA32_DEBUGCTL are reserved is a parameter (R146, decision D20, log 19). -/
def Obligations.GuestRegisterConditions : Prop :=
  ∀ p v,
    (guestPaeOk p v = true ↔ (ia32eModeGuest p v = true → bit v.guest.cr4 5 = true))
    ∧ (guestDr7Ok v = true ↔ v.guest.dr7.toNat < 2 ^ 32)
    ∧ (guestDebugctlOk p v = true ↔ ∀ k, k < 64 → bit p.debugctlRsvd k = true → bit v.guest.debugctl k = false)
    ∧ (guestSysenterOk p v = true ↔ canonical p v.guest.sysenterEsp = true ∧ canonical p v.guest.sysenterRip = true)
    ∧ (guestTableBasesOk p v = true ↔ canonical p v.guest.gdtr.base = true ∧ canonical p v.guest.idtr.base = true)
    ∧ (guestTableLimitsOk v = true ↔ v.guest.gdtr.limit.toNat < 2 ^ 16 ∧ v.guest.idtr.limit.toNat < 2 ^ 16)

/-- When a guest-state check fails after steps 1 and 2, both instructions end in a failure like a VM exit: no VM-instruction
error, no change of launch state (R68). That the model goes on, with a free host-state load, is R68's second choice (log 2);
that the other parts of the VMCS stay is the model's (log 34), and so is that VMX root operation goes on (log 35). -/
def Obligations.GuestCheckFailureIsLikeExit : Prop :=
  ∀ i s v, s.PassesStep1 (kindOf i) v → PassesStep2 impl s v →
    (guestRegisterChecksPass impl v && guestSegmentChecksPass impl s v) = false →
    ∃ t, exec i s = .next t ∧ FailsLikeExit impl .guestState s v s t

/-- Outside virtual-8086 the CS types that pass R178 and R179 are 9, 11, 13 and 15 (R179). -/
def Obligations.CodeSegmentTypesAllowed : Prop :=
  ∀ v, v86Guest v = false → ((csAccessedOk v && csCodeOk v) = true ↔ arType v.guest.cs ∈ [9, 11, 13, 15])

/-- The types of usable DS, ES, FS, GS that pass R183 and R184 are 1, 3, 5, 7, 11 and 15 (R184). -/
def Obligations.DataSegmentTypesAllowed : Prop :=
  ∀ v, (dataAccessedOk v && dataReadableOk v) = true
    ↔ ∀ r ∈ dataSegments v.guest, usable r = true → arType r ∈ [1, 3, 5, 7, 11, 15]

/-- A limit with a clear bit in 11:0 and a set bit in 31:20 passes with no G (R203). -/
def Obligations.RaggedLimitNeverPasses : Prop :=
  ∀ v r, slice r.limit 11 0 ≠ 0xFFF → slice r.limit 31 20 ≠ 0 →
    (granularitySmallOk v r && granularityLargeOk r) = false

/-- What a virtual-8086 guest demands of the segment registers, both ways (R211): the six code and data registers, TR, and
LDTR unless it is unusable. A small limit follows from G = 0 for TR and LDTR (R203, R205). -/
def Obligations.Virtual8086GuestDemands : Prop :=
  ∀ p v, v86Guest v = true → (guestSegmentRulesOk p v = true ↔
    (∀ r ∈ codeAndDataSegments v.guest,
      r.base = p.v86Base r.sel ∧ r.limit = 0xFFFF ∧ arType r = 3 ∧ arS r = true ∧ arP r = true ∧ arReservedLow r = 0
        ∧ arDb r = false ∧ arG r = false ∧ arUnusable r = false)
    ∧ arDpl v.guest.cs = 3 ∧ (∀ r ∈ dataSegments v.guest, arDpl r = 3)
    ∧ (∀ r ∈ [v.guest.cs, v.guest.ss, v.guest.ds, v.guest.es], slice r.base 63 32 = 0)
    ∧ canonical p v.guest.fs.base = true ∧ canonical p v.guest.gs.base = true ∧ arReservedHigh v.guest.cs = 0
    ∧ (selTi v.guest.tr.sel = false ∧ canonical p v.guest.tr.base = true
        ∧ (arType v.guest.tr = 11 ∨ (ia32eModeGuest p v = false ∧ arType v.guest.tr = 3))
        ∧ arS v.guest.tr = false ∧ arP v.guest.tr = true ∧ arReservedLow v.guest.tr = 0 ∧ arG v.guest.tr = false
        ∧ slice v.guest.tr.limit 31 20 = 0 ∧ arUnusable v.guest.tr = false ∧ arReservedHigh v.guest.tr = 0)
    ∧ (usable v.guest.ldtr = true →
        selTi v.guest.ldtr.sel = false ∧ canonical p v.guest.ldtr.base = true ∧ arType v.guest.ldtr = 2
          ∧ arS v.guest.ldtr = false ∧ arP v.guest.ldtr = true ∧ arReservedLow v.guest.ldtr = 0
          ∧ arG v.guest.ldtr = false ∧ slice v.guest.ldtr.limit 31 20 = 0))

/-- What a guest that will not be virtual-8086 demands of its segment registers, part by part and both ways: selectors and
bases (R163 to R173), Type (R175 to R184), S, DPL, P and bits 11:8 (R186 to R199), D/B, G, Unusable and bits 31:17 of CS and
TR (R200 to R208). CS and TR are looked at always, SS in its RPL and DPL even when unusable, the others when usable. The checks
whose existence is certain pass exactly when the four parts do. -/
def Obligations.OrdinaryGuestDemands : Prop :=
  ∀ p v, v86Guest v = false →
    (guestSegmentFieldsOk p v = true ↔
      selTi v.guest.tr.sel = false ∧ (usable v.guest.ldtr = true → selTi v.guest.ldtr.sel = false)
      ∧ selRpl v.guest.ss.sel = selRpl v.guest.cs.sel
      ∧ (∀ a ∈ [v.guest.tr.base, v.guest.fs.base, v.guest.gs.base], canonical p a = true)
      ∧ (usable v.guest.ldtr = true → canonical p v.guest.ldtr.base = true) ∧ v.guest.cs.base.toNat < 2 ^ 32
      ∧ ∀ r ∈ [v.guest.ss, v.guest.ds, v.guest.es], usable r = true → r.base.toNat < 2 ^ 32)
    ∧ (guestSegmentTypesOk p v = true ↔
      (arType v.guest.tr = 11 ∨ (ia32eModeGuest p v = false ∧ arType v.guest.tr = 3))
      ∧ (usable v.guest.ldtr = true → arType v.guest.ldtr = 2) ∧ arType v.guest.cs ∈ [9, 11, 13, 15]
      ∧ (usable v.guest.ss = true → arType v.guest.ss ∈ [3, 7])
      ∧ ∀ r ∈ [v.guest.ds, v.guest.es, v.guest.fs, v.guest.gs], usable r = true → arType r ∈ [1, 3, 5, 7, 11, 15])
    ∧ (guestSegmentRightsOk v = true ↔
      arS v.guest.tr = false ∧ arS v.guest.cs = true ∧ (usable v.guest.ldtr = true → arS v.guest.ldtr = false)
      ∧ (∀ r ∈ [v.guest.ss, v.guest.ds, v.guest.es, v.guest.fs, v.guest.gs], usable r = true → arS r = true)
      ∧ (arType v.guest.cs ∈ [8, 9, 10, 11] → arDpl v.guest.cs = selRpl v.guest.cs.sel)
      ∧ (arType v.guest.cs ∈ [13, 14, 15] → arDpl v.guest.cs ≤ selRpl v.guest.cs.sel)
      ∧ arDpl v.guest.ss = selRpl v.guest.ss.sel
      ∧ (∀ r ∈ [v.guest.ds, v.guest.es, v.guest.fs, v.guest.gs], usable r = true → arType r ≤ 11 → selRpl r.sel ≤ arDpl r)
      ∧ (∀ r ∈ [v.guest.cs, v.guest.tr], arP r = true ∧ arReservedLow r = 0)
      ∧ ∀ r ∈ [v.guest.ss, v.guest.ds, v.guest.es, v.guest.fs, v.guest.gs, v.guest.ldtr], usable r = true →
          arP r = true ∧ arReservedLow r = 0)
    ∧ (guestSegmentSizesOk p v = true ↔
      (ia32eModeGuest p v = true → arL v.guest.cs = true → arDb v.guest.cs = false)
      ∧ (∀ r ∈ [v.guest.cs, v.guest.tr], (arG r = true → slice r.limit 11 0 = 0xFFF)
          ∧ (slice r.limit 31 20 ≠ 0 → arG r = true) ∧ arReservedHigh r = 0)
      ∧ (∀ r ∈ [v.guest.ss, v.guest.ds, v.guest.es, v.guest.fs, v.guest.gs, v.guest.ldtr], usable r = true →
          (arG r = true → slice r.limit 11 0 = 0xFFF) ∧ (slice r.limit 31 20 ≠ 0 → arG r = true))
      ∧ arUnusable v.guest.tr = false)
    ∧ (guestSegmentRulesOk p v = true ↔ guestSegmentFieldsOk p v = true ∧ guestSegmentTypesOk p v = true
      ∧ guestSegmentRightsOk v = true ∧ guestSegmentSizesOk p v = true)

/-- What an unusable DS, ES or LDTR holds does not matter when the guest will not be virtual-8086 (R212). -/
def Obligations.UnusableRegistersDoNotMatter : Prop :=
  ∀ p s v r, v86Guest v = false → usable r = false →
    (usable v.guest.ds = false →
      guestSegmentChecksPass p s { v with guest := { v.guest with ds := r } } = guestSegmentChecksPass p s v)
    ∧ (usable v.guest.es = false →
      guestSegmentChecksPass p s { v with guest := { v.guest with es := r } } = guestSegmentChecksPass p s v)
    ∧ (usable v.guest.ldtr = false →
      guestSegmentChecksPass p s { v with guest := { v.guest with ldtr := r } } = guestSegmentChecksPass p s v)

/-- The doubtful check of R209: with the bits 0 every setting passes it; otherwise `yes` fails, `no` passes and `either`
admits both verdicts (R209). -/
def Obligations.DoubtfulReservedBits : Prop :=
  ∀ p s v, guestSegmentRulesOk p v = true →
    (optionalReservedHighZero v = true → guestSegmentChecksPass p s v = true)
    ∧ (optionalReservedHighZero v = false →
        (p.checkRsvd3117Other = .yes → guestSegmentChecksPass p s v = false)
        ∧ (p.checkRsvd3117Other = .no → guestSegmentChecksPass p s v = true)
        ∧ (p.checkRsvd3117Other = .either → guestSegmentChecksPass p s v = p.rsvd3117Verdict s))

/-! ### The completed entry -/

/-- When every surviving check passes, both instructions complete: the guest is entered where the lost guest checks and the
lost MSR load, of which nothing is known, succeed, and the entry fails like a VM exit where they do not (R60, R69, R72). That
the model goes on past `ChecksPassed` is R69's second choice (log 1); the model's are also that the rest of the VMCS stays
(log 34), that VMX root operation goes on after a failure (log 35), and what the lost load, MSR load and injection leave alone
(logs 31, 32, 33, 42). -/
def Obligations.PassingEntryCompletes : Prop :=
  ∀ i s v, s.PassesStep1 (kindOf i) v → PassesStep2 impl s v → guestRegisterChecksPass impl v = true →
    guestSegmentChecksPass impl s v = true →
    ∃ t, exec i s = .next t ∧
      if impl.lostGuestChecksPass s = true then
        if (loadMsrs impl (loadGuestState impl s)).isSome = true then EntersGuest impl (kindOf i) v s t
        else FailsLikeExit impl .msrLoad (loadGuestState impl s) v s t
      else FailsLikeExit impl .guestState s v s t

/-- Under every implementation whose lost guest checks pass and whose MSR load, where the count is not 0, succeeds, both kinds
of VM entry enter the guest when every surviving check passes (R60, R72, R73, R74). The rules do not say the frame: that the
model goes on past `ChecksPassed` is R69's second choice (log 1), that the rest of the VMCS stays is the model's (log 34), and
so is what the lost load, MSR load and injection leave alone (logs 31, 32, 33, 42). -/
def Obligations.GuestIsEnteredUnderEveryImplementation : Prop :=
  ∀ p kind s v, s.PassesStep1 kind v → PassesStep2 p s v → guestRegisterChecksPass p v = true →
    guestSegmentChecksPass p s v = true → p.lostGuestChecksPass s = true →
    (v.ctl.entryMsrLoad.count ≠ 0 → (p.msrLoad (loadGuestState p s)).isSome = true) →
    ∃ t, vmEntry p kind s = .next t ∧ EntersGuest p kind v s t

/-! ### The whole machine -/

/-- No step changes CR0.NW or CR0.CD (R268). -/
def Obligations.CacheBitsNeverChange : Prop :=
  ∀ s t, step s = .next t → bit t.cpu.cr0 29 = bit s.cpu.cr0 29 ∧ bit t.cpu.cr0 30 = bit s.cpu.cr0 30

/-- A step that gives a next state starts in VMX root operation, outside virtual-8086 and compatibility mode, at CPL 0
(R253). -/
def Obligations.SuccessfulStepsArePrivileged : Prop :=
  ∀ s t, step s = .next t → s.vmxMode = .root ∧ s.cpu.mode = .other ∧ s.cpu.cpl = 0

/-- Every step that gives a next state is the VM entry of the decoded instruction's kind under the machine's implementation; and
under every implementation a VM entry reaches VMX non-root operation only if every check of the spec and the lost guest checks
pass, and then the VMCS is launched and monitoring is cleared (R60, R65, R88, R139, R150). -/
def Obligations.GuestEntryIsSound : Prop :=
  (∀ s t, step s = .next t → ∃ i rest, decode (fetch s) = .ok (i, rest) ∧ vmEntry impl (kindOf i) s = .next t)
    ∧ ∀ p kind s t, vmEntry p kind s = .next t → t.vmxMode = .nonRoot →
      (∃ v, s.PassesStep1 kind v ∧ PassesStep2 p s v ∧ guestRegisterChecksPass p v = true
        ∧ guestSegmentChecksPass p s v = true) ∧ p.lostGuestChecksPass s = true
      ∧ t.launchState = some .launched ∧ t.monitorArmed = false

/-- Under every implementation a VM entry changes the launch state only from clear to launched, and only by entering a guest
with `VMLAUNCH` (R60, R67, R68, R72). -/
def Obligations.LaunchStateChangesOnlyOnEntry : Prop :=
  ∀ p kind s t, vmEntry p kind s = .next t → t.launchState ≠ s.launchState →
    kind = .launch ∧ s.launchState = some .clear ∧ t.launchState = some .launched ∧ t.vmxMode = .nonRoot

/-- Over any run from any state, a launched VMCS stays launched (R72). -/
def Obligations.LaunchedStaysLaunched : Prop :=
  ∀ n (s t : State), core.run n s = .next t → s.launchState = some .launched → t.launchState = some .launched

/-- A step changes the VM-instruction error field only by a `VMfailValid`: RFLAGS.ZF is 1, control passes to the next
instruction, and the field holds one of the five error numbers (R67, R87). That no outcome past step 2 writes the field is
decision D1 by 93 U18 and the model's (logs 8, 34). -/
def Obligations.ErrorFieldChangesOnlyOnVmfail : Prop :=
  ∀ s t, step s = .next t → t.errorField ≠ s.errorField →
    bit t.cpu.rflags 6 = true ∧ t.cpu.rip = s.cpu.rip + BitVec.ofNat 64 impl.insnLen
      ∧ ∃ e ∈ impl.errorNumbers, t.errorField = some e

/-- Over any run from any state, whether there is a current VMCS does not change, and its host-state and guest-state areas are
not written (R16, R67). On the outcomes past step 2 this is the model's (log 34). -/
def Obligations.StateAreasAreNeverWritten : Prop :=
  ∀ n (s t : State), core.run n s = .next t →
    t.currentVmcs.map (fun v => (v.host, v.guest)) = s.currentVmcs.map fun v => (v.host, v.guest)

/-- From VMX non-root operation no step gives a next state: no way back is in the spec (R19, the model's refusal, log 28). -/
def Obligations.NonRootGivesNoStep : Prop :=
  ∀ s t : State, s.vmxMode = .nonRoot → step s ≠ .next t

/-- Every step that gives a next state advances the counter by one, so that no two steps of a run draw their free values from
the same state (the model's, log 29). -/
def Obligations.EveryStepDrawsAnew : Prop :=
  ∀ n (s t : State), core.run n s = .next t → t.draws = s.draws + n
end

