-- ==== Sys2Proof/Laws/Impl.lean ====
section
/-! SUPPORT. What is known of the machine's own implementation, whatever the opaque constants are. -/

namespace Sys2Proof.Machine

@[simp] theorem impl_insnLen : impl.insnLen = 3 := rfl
@[simp] theorem impl_cr3TargetMax : impl.cr3TargetMax = 4 := rfl
@[simp] theorem impl_cr0Must1 : impl.cr0Must1 = 0x80000021 := rfl
@[simp] theorem impl_cr0Must0 : impl.cr0Must0 = 0 := rfl
@[simp] theorem impl_cr4Must1 : impl.cr4Must1 = 0x2000 := rfl
@[simp] theorem impl_cr4Must0 : impl.cr4Must0 = 0 := rfl
@[simp] theorem impl_checkRsvd3117Other : impl.checkRsvd3117Other = .either := rfl
@[simp] theorem impl_vmfailOtherFlags : impl.vmfailOtherFlags = .draw := rfl

theorem impl_paw_lower : 32 ≤ impl.paw := Nat.le_add_right 32 _

theorem impl_paw_upper : impl.paw ≤ 52 := by
  have : impl.paw = 32 + Config.pawOver32.val := rfl
  omega

theorem impl_law_lower : 1 ≤ impl.law := Nat.le_add_right 1 _

theorem impl_law_upper : impl.law ≤ 64 := by
  have : impl.law = 1 + Config.lawOver1.val := rfl
  omega

/-- A bit that `bitAt` names is set in it. -/
theorem bitAt_self {pos : Nat} (h : pos < 32) : (bitAt pos).getLsbD pos = true := by
  simp [bitAt, h]

/-- A word that holds the bits that must be 1 and no others passes its reserved-bit check. -/
theorem reservedOk_ones (ones zeros named : Word32) :
    reservedOk (reservedOnes ones named) (reservedZeros ones zeros named) (reservedOnes ones named) = true := by
  have h : reservedOnes ones named &&& reservedZeros ones zeros named = 0 := by
    ext i hi; simp [reservedOnes, reservedZeros]; grind
  simp [reservedOk, h]

/-- Setting a named control on top of the bits that must be 1 does not break the reserved-bit check. -/
theorem reservedOk_ones_or (ones zeros named extra : Word32) (h : extra &&& ~~~named = 0) :
    reservedOk (reservedOnes ones named) (reservedZeros ones zeros named) (reservedOnes ones named ||| extra) = true := by
  have bits : ∀ i, i < 32 → extra.getLsbD i = true → named.getLsbD i = true := by
    intro i hi he
    have := congrArg (·.getLsbD i) h
    simpa [he, hi] using this
  have h0 : (reservedOnes ones named ||| extra) &&& reservedZeros ones zeros named = 0 := by
    ext i hi
    have := bits i hi
    simp [reservedOnes, reservedZeros, BitVec.getLsbD_eq_getElem hi] at this ⊢
    grind
  have h1 : (reservedOnes ones named ||| extra) &&& reservedOnes ones named = reservedOnes ones named := by
    ext i hi; simp [reservedOnes]; grind
  simp [reservedOk, h0, h1]

/-- A named control reads 0 in a word that holds only the bits that must be 1. -/
theorem reservedOnes_named (ones named : Word32) {pos : Nat} (h : named.getLsbD pos = true) :
    (reservedOnes ones named).getLsbD pos = false := by
  simp [reservedOnes, h]

theorem procNamed_ioBitmaps : procNamed.getLsbD impl.ctlActivateIoBitmaps = true := by
  have h := bitAt_self (pos := (Config.procPositions 25).val) (Fin.isLt _)
  show (bitAt (Config.procPositions 25).val ||| _).getLsbD (Config.procPositions 25).val = true
  rw [BitVec.getLsbD_or, h, Bool.true_or]

theorem procNamed_tprShadow : procNamed.getLsbD impl.ctlUseTprShadow = true := by
  have h := bitAt_self (pos := (Config.procPositions 21).val) (Fin.isLt _)
  show (_ ||| bitAt (Config.procPositions 21).val).getLsbD (Config.procPositions 21).val = true
  rw [BitVec.getLsbD_or, h, Bool.or_true]

theorem exitNamed_hostSize : (bitAt Config.exitPosition.val).getLsbD impl.ctlHostAddrSpaceSize = true :=
  bitAt_self (Fin.isLt _)

theorem entryNamed_ia32e : (bitAt Config.entryPosition.val).getLsbD impl.ctlIa32eModeGuest = true :=
  bitAt_self (Fin.isLt _)

/-- Address 0 is canonical whatever the linear-address width. -/
@[simp] theorem canonical_zero (p : Impl) : canonical p 0 = true := by
  have h : (0 : BitVec p.law).signExtend 64 = 0 := by
    ext i; simp [BitVec.getElem_signExtend, BitVec.msb_eq_getLsbD_last]
  simpa [canonical] using h.symm

/-- Zero is within every physical-address width. -/
@[simp] theorem withinPaw_zero (p : Impl) : withinPaw p 0 = true := by simp [withinPaw]

end Sys2Proof.Machine
end

