-- ==== Sys2Proof/Laws/Memory.lean ====
section
/-! SUPPORT. The laws of the byte stores: reading after writing, and every operation keeps the canonical form. -/

namespace Sys2Proof.Machine

/-- An address below every listed one is not listed. -/
theorem lookupCells_of_below (cells : List Host.Cell) (a : Nat) (h : ∀ c ∈ cells, a < c.1) : lookupCells cells a = none := by
  induction cells with
  | nil => rfl
  | cons c rest ih =>
    have hc := h c (by simp)
    rw [lookupCells, if_neg (by omega)]
    exact ih fun d hd => h d (by simp [hd])

/-- Reading the address just written gives the byte written. -/
theorem lookupCells_insert_same (cells : List Host.Cell) (a : Nat) (b : Byte) :
    lookupCells (insertCell cells a b) a = some b := by
  induction cells with
  | nil => simp [insertCell, lookupCells]
  | cons c rest ih =>
    obtain ⟨k, x⟩ := c
    by_cases h1 : a < k
    · simp [insertCell, h1, lookupCells]
    · by_cases h2 : a = k
      · simp [insertCell, h2, lookupCells]
      · simp [insertCell, h1, h2, lookupCells, ih]

/-- Writing an address leaves every other address as it was. -/
theorem lookupCells_insert_other (cells : List Host.Cell) (a a' : Nat) (b : Byte) (h : a' ≠ a) :
    lookupCells (insertCell cells a b) a' = lookupCells cells a' := by
  induction cells with
  | nil => simp [insertCell, lookupCells, h]
  | cons c rest ih =>
    obtain ⟨k, x⟩ := c
    by_cases h1 : a < k
    · simp [insertCell, h1, lookupCells, h]
    · by_cases h2 : a = k
      · subst h2; simp [insertCell, lookupCells, h]
      · simp [insertCell, h1, h2, lookupCells, ih]

/-- What an insertion lists: the new cell, and cells that were listed. -/
theorem mem_insertCell {cells : List Host.Cell} {a : Nat} {b : Byte} {c : Host.Cell} (h : c ∈ insertCell cells a b) :
    c = (a, b) ∨ c ∈ cells := by
  induction cells with
  | nil => simpa [insertCell] using h
  | cons d rest ih =>
    obtain ⟨k, x⟩ := d
    rw [insertCell] at h
    split at h
    · simpa using h
    · split at h
      · rcases List.mem_cons.1 h with h | h
        · exact .inl h
        · exact .inr (by simp [h])
      · rcases List.mem_cons.1 h with h | h
        · exact .inr (by simp [h])
        · exact (ih h).imp_right (by simp +contextual)

/-- An insertion keeps the addresses strictly rising. -/
theorem insertCell_pairwise {cells : List Host.Cell} (a : Nat) (b : Byte) (h : cells.Pairwise fun x y => x.1 < y.1) :
    (insertCell cells a b).Pairwise fun x y => x.1 < y.1 := by
  induction cells with
  | nil => simp [insertCell]
  | cons c rest ih =>
    obtain ⟨k, x⟩ := c
    obtain ⟨hk, hr⟩ := List.pairwise_cons.1 h
    rw [insertCell]
    split
    next hlt =>
      refine List.pairwise_cons.2 ⟨fun d hd => ?_, h⟩
      rcases List.mem_cons.1 hd with rfl | hd
      · exact hlt
      · exact lt_trans hlt (hk d hd)
    next =>
      split
      next heq => subst heq; exact List.pairwise_cons.2 ⟨hk, hr⟩
      next =>
        refine List.pairwise_cons.2 ⟨fun d hd => ?_, ih hr⟩
        rcases mem_insertCell hd with rfl | hd
        · show k < a; omega
        · exact hk d hd

@[simp] theorem Memory.read_write_same (m : Memory) (a : Nat) (b : Byte) : (m.write a b).read a = some b :=
  lookupCells_insert_same m.cells a b

theorem Memory.read_write_other (m : Memory) {a a' : Nat} (b : Byte) (h : a' ≠ a) : (m.write a b).read a' = m.read a' :=
  lookupCells_insert_other m.cells a a' b h

theorem Memory.wf_write {m : Memory} (a : Nat) (b : Byte) (h : m.wf) : (m.write a b).wf := insertCell_pairwise a b h

theorem Memory.wf_writeCells {m : Memory} (cells : List Host.Cell) (h : m.wf) : (m.writeCells cells).wf := by
  induction cells generalizing m with
  | nil => exact h
  | cons c rest ih => exact ih (Memory.wf_write c.1 c.2 h)

theorem Memory.wf_writeBytes {m : Memory} (a : Nat) (bs : List Byte) (h : m.wf) : (m.writeBytes a bs).wf := by
  induction bs generalizing m a with
  | nil => exact h
  | cons b rest ih => exact ih (a + 1) (Memory.wf_write a b h)

theorem Memory.wf_empty : Memory.wf { cells := [] } := List.Pairwise.nil

theorem Memory.wf_ofCells (cells : List Host.Cell) : (Memory.ofCells cells).wf := Memory.wf_writeCells cells Memory.wf_empty

theorem wf_writePhys (p : Impl) {m : Memory} (cells : List Host.Cell) (h : m.wf) : (writePhys p m cells).wf :=
  Memory.wf_writeCells _ h

/-- Writing cells lists only those cells and what was listed. -/
theorem Memory.mem_writeCells {m : Memory} {cells : List Host.Cell} {c : Host.Cell} (h : c ∈ (m.writeCells cells).cells) :
    c ∈ cells ∨ c ∈ m.cells := by
  induction cells generalizing m with
  | nil => exact .inr h
  | cons d rest ih =>
    rcases ih h with h | h
    · exact .inl (by simp [h])
    · rcases mem_insertCell h with rfl | h
      · exact .inl (by simp)
      · exact .inr h

/-- Placing bytes leaves every address outside them as it was. -/
theorem Memory.read_writeBytes_outside {m : Memory} {a : Nat} {bs : List Byte} {a' : Nat}
    (h : a' < a ∨ a + bs.length ≤ a') : (m.writeBytes a bs).read a' = m.read a' := by
  induction bs generalizing m a with
  | nil => rfl
  | cons b rest ih =>
    simp only [List.length_cons] at h
    rw [Memory.writeBytes, ih (by omega), Memory.read_write_other _ _ (by omega)]

/-- Placing bytes makes each of them readable at its address. -/
theorem Memory.read_writeBytes {m : Memory} {a : Nat} {bs : List Byte} {k : Nat} (h : k < bs.length) :
    (m.writeBytes a bs).read (a + k) = bs[k]? := by
  induction bs generalizing m a k with
  | nil => simp at h
  | cons b rest ih =>
    rw [Memory.writeBytes]
    cases k with
    | zero => rw [Memory.read_writeBytes_outside (by omega)]; simp
    | succ k =>
      have := ih (m := m.write a b) (a := a + 1) (k := k) (by simpa using h)
      rw [show a + (k + 1) = a + 1 + k by omega, this]; simp

end Sys2Proof.Machine
end

