-- ==== Sys2Proof/Laws/State.lean ====
section
/-! SUPPORT. What each update of the state leaves in each field: one lemma per field per update, true by rfl. Later proofs
cite these (as the simp set) and unfold no record update. -/

namespace Sys2Proof.Machine

/-! ### Updates of the whole state -/

@[simp] theorem State.setCpu_cpu (s : State) (x : Processor) : (s.setCpu x).cpu = x := rfl
@[simp] theorem State.setCpu_vmxMode (s : State) (x : Processor) : (s.setCpu x).vmxMode = s.vmxMode := rfl
@[simp] theorem State.setCpu_monitorArmed (s : State) (x : Processor) : (s.setCpu x).monitorArmed = s.monitorArmed := rfl
@[simp] theorem State.setCpu_movssBlocking (s : State) (x : Processor) : (s.setCpu x).movssBlocking = s.movssBlocking := rfl
@[simp] theorem State.setCpu_currentVmcs (s : State) (x : Processor) : (s.setCpu x).currentVmcs = s.currentVmcs := rfl
@[simp] theorem State.setCpu_mem (s : State) (x : Processor) : (s.setCpu x).mem = s.mem := rfl
@[simp] theorem State.setCpu_code (s : State) (x : Processor) : (s.setCpu x).code = s.code := rfl
@[simp] theorem State.setCpu_draws (s : State) (x : Processor) : (s.setCpu x).draws = s.draws := rfl

@[simp] theorem State.setVmxMode_cpu (s : State) (x : VmxMode) : (s.setVmxMode x).cpu = s.cpu := rfl
@[simp] theorem State.setVmxMode_vmxMode (s : State) (x : VmxMode) : (s.setVmxMode x).vmxMode = x := rfl
@[simp] theorem State.setVmxMode_monitorArmed (s : State) (x : VmxMode) : (s.setVmxMode x).monitorArmed = s.monitorArmed := rfl
@[simp] theorem State.setVmxMode_movssBlocking (s : State) (x : VmxMode) : (s.setVmxMode x).movssBlocking = s.movssBlocking := rfl
@[simp] theorem State.setVmxMode_currentVmcs (s : State) (x : VmxMode) : (s.setVmxMode x).currentVmcs = s.currentVmcs := rfl
@[simp] theorem State.setVmxMode_mem (s : State) (x : VmxMode) : (s.setVmxMode x).mem = s.mem := rfl
@[simp] theorem State.setVmxMode_code (s : State) (x : VmxMode) : (s.setVmxMode x).code = s.code := rfl
@[simp] theorem State.setVmxMode_draws (s : State) (x : VmxMode) : (s.setVmxMode x).draws = s.draws := rfl

@[simp] theorem State.setMonitor_cpu (s : State) (x : Bool) : (s.setMonitor x).cpu = s.cpu := rfl
@[simp] theorem State.setMonitor_vmxMode (s : State) (x : Bool) : (s.setMonitor x).vmxMode = s.vmxMode := rfl
@[simp] theorem State.setMonitor_monitorArmed (s : State) (x : Bool) : (s.setMonitor x).monitorArmed = x := rfl
@[simp] theorem State.setMonitor_movssBlocking (s : State) (x : Bool) : (s.setMonitor x).movssBlocking = s.movssBlocking := rfl
@[simp] theorem State.setMonitor_currentVmcs (s : State) (x : Bool) : (s.setMonitor x).currentVmcs = s.currentVmcs := rfl
@[simp] theorem State.setMonitor_mem (s : State) (x : Bool) : (s.setMonitor x).mem = s.mem := rfl
@[simp] theorem State.setMonitor_code (s : State) (x : Bool) : (s.setMonitor x).code = s.code := rfl
@[simp] theorem State.setMonitor_draws (s : State) (x : Bool) : (s.setMonitor x).draws = s.draws := rfl

@[simp] theorem State.setMovss_cpu (s : State) (x : Bool) : (s.setMovss x).cpu = s.cpu := rfl
@[simp] theorem State.setMovss_vmxMode (s : State) (x : Bool) : (s.setMovss x).vmxMode = s.vmxMode := rfl
@[simp] theorem State.setMovss_monitorArmed (s : State) (x : Bool) : (s.setMovss x).monitorArmed = s.monitorArmed := rfl
@[simp] theorem State.setMovss_movssBlocking (s : State) (x : Bool) : (s.setMovss x).movssBlocking = x := rfl
@[simp] theorem State.setMovss_currentVmcs (s : State) (x : Bool) : (s.setMovss x).currentVmcs = s.currentVmcs := rfl
@[simp] theorem State.setMovss_mem (s : State) (x : Bool) : (s.setMovss x).mem = s.mem := rfl
@[simp] theorem State.setMovss_code (s : State) (x : Bool) : (s.setMovss x).code = s.code := rfl
@[simp] theorem State.setMovss_draws (s : State) (x : Bool) : (s.setMovss x).draws = s.draws := rfl

@[simp] theorem State.mapVmcs_cpu (s : State) (f : Vmcs → Vmcs) : (s.mapVmcs f).cpu = s.cpu := rfl
@[simp] theorem State.mapVmcs_vmxMode (s : State) (f : Vmcs → Vmcs) : (s.mapVmcs f).vmxMode = s.vmxMode := rfl
@[simp] theorem State.mapVmcs_monitorArmed (s : State) (f : Vmcs → Vmcs) : (s.mapVmcs f).monitorArmed = s.monitorArmed := rfl
@[simp] theorem State.mapVmcs_movssBlocking (s : State) (f : Vmcs → Vmcs) : (s.mapVmcs f).movssBlocking = s.movssBlocking := rfl
@[simp] theorem State.mapVmcs_currentVmcs (s : State) (f : Vmcs → Vmcs) : (s.mapVmcs f).currentVmcs = s.currentVmcs.map f := rfl
@[simp] theorem State.mapVmcs_mem (s : State) (f : Vmcs → Vmcs) : (s.mapVmcs f).mem = s.mem := rfl
@[simp] theorem State.mapVmcs_code (s : State) (f : Vmcs → Vmcs) : (s.mapVmcs f).code = s.code := rfl
@[simp] theorem State.mapVmcs_draws (s : State) (f : Vmcs → Vmcs) : (s.mapVmcs f).draws = s.draws := rfl

@[simp] theorem State.setMem_cpu (s : State) (x : Memory) : (s.setMem x).cpu = s.cpu := rfl
@[simp] theorem State.setMem_vmxMode (s : State) (x : Memory) : (s.setMem x).vmxMode = s.vmxMode := rfl
@[simp] theorem State.setMem_monitorArmed (s : State) (x : Memory) : (s.setMem x).monitorArmed = s.monitorArmed := rfl
@[simp] theorem State.setMem_movssBlocking (s : State) (x : Memory) : (s.setMem x).movssBlocking = s.movssBlocking := rfl
@[simp] theorem State.setMem_currentVmcs (s : State) (x : Memory) : (s.setMem x).currentVmcs = s.currentVmcs := rfl
@[simp] theorem State.setMem_mem (s : State) (x : Memory) : (s.setMem x).mem = x := rfl
@[simp] theorem State.setMem_code (s : State) (x : Memory) : (s.setMem x).code = s.code := rfl
@[simp] theorem State.setMem_draws (s : State) (x : Memory) : (s.setMem x).draws = s.draws := rfl

@[simp] theorem State.setCode_cpu (s : State) (x : Memory) : (s.setCode x).cpu = s.cpu := rfl
@[simp] theorem State.setCode_vmxMode (s : State) (x : Memory) : (s.setCode x).vmxMode = s.vmxMode := rfl
@[simp] theorem State.setCode_monitorArmed (s : State) (x : Memory) : (s.setCode x).monitorArmed = s.monitorArmed := rfl
@[simp] theorem State.setCode_movssBlocking (s : State) (x : Memory) : (s.setCode x).movssBlocking = s.movssBlocking := rfl
@[simp] theorem State.setCode_currentVmcs (s : State) (x : Memory) : (s.setCode x).currentVmcs = s.currentVmcs := rfl
@[simp] theorem State.setCode_mem (s : State) (x : Memory) : (s.setCode x).mem = s.mem := rfl
@[simp] theorem State.setCode_code (s : State) (x : Memory) : (s.setCode x).code = x := rfl
@[simp] theorem State.setCode_draws (s : State) (x : Memory) : (s.setCode x).draws = s.draws := rfl

@[simp] theorem State.tick_cpu (s : State) : (s.tick).cpu = s.cpu := rfl
@[simp] theorem State.tick_vmxMode (s : State) : (s.tick).vmxMode = s.vmxMode := rfl
@[simp] theorem State.tick_monitorArmed (s : State) : (s.tick).monitorArmed = s.monitorArmed := rfl
@[simp] theorem State.tick_movssBlocking (s : State) : (s.tick).movssBlocking = s.movssBlocking := rfl
@[simp] theorem State.tick_currentVmcs (s : State) : (s.tick).currentVmcs = s.currentVmcs := rfl
@[simp] theorem State.tick_mem (s : State) : (s.tick).mem = s.mem := rfl
@[simp] theorem State.tick_code (s : State) : (s.tick).code = s.code := rfl
@[simp] theorem State.tick_draws (s : State) : (s.tick).draws = s.draws + 1 := rfl

@[simp] theorem State.loadCpu_cpu (s : State) (x : Processor) : (s.loadCpu x).cpu = s.cpu.keepCacheBits x := rfl
@[simp] theorem State.loadCpu_vmxMode (s : State) (x : Processor) : (s.loadCpu x).vmxMode = s.vmxMode := rfl
@[simp] theorem State.loadCpu_monitorArmed (s : State) (x : Processor) : (s.loadCpu x).monitorArmed = s.monitorArmed := rfl
@[simp] theorem State.loadCpu_movssBlocking (s : State) (x : Processor) : (s.loadCpu x).movssBlocking = s.movssBlocking := rfl
@[simp] theorem State.loadCpu_currentVmcs (s : State) (x : Processor) : (s.loadCpu x).currentVmcs = s.currentVmcs := rfl
@[simp] theorem State.loadCpu_mem (s : State) (x : Processor) : (s.loadCpu x).mem = s.mem := rfl
@[simp] theorem State.loadCpu_code (s : State) (x : Processor) : (s.loadCpu x).code = s.code := rfl
@[simp] theorem State.loadCpu_draws (s : State) (x : Processor) : (s.loadCpu x).draws = s.draws := rfl

/-! ### Updates of RIP and RFLAGS -/

@[simp] theorem State.setRip_vmxMode (s : State) (x : Word64) : (s.setRip x).vmxMode = s.vmxMode := rfl
@[simp] theorem State.setRip_monitorArmed (s : State) (x : Word64) : (s.setRip x).monitorArmed = s.monitorArmed := rfl
@[simp] theorem State.setRip_movssBlocking (s : State) (x : Word64) : (s.setRip x).movssBlocking = s.movssBlocking := rfl
@[simp] theorem State.setRip_currentVmcs (s : State) (x : Word64) : (s.setRip x).currentVmcs = s.currentVmcs := rfl
@[simp] theorem State.setRip_mem (s : State) (x : Word64) : (s.setRip x).mem = s.mem := rfl
@[simp] theorem State.setRip_code (s : State) (x : Word64) : (s.setRip x).code = s.code := rfl
@[simp] theorem State.setRip_draws (s : State) (x : Word64) : (s.setRip x).draws = s.draws := rfl
@[simp] theorem State.setRip_cpu_rip (s : State) (x : Word64) : (s.setRip x).cpu.rip = x := rfl
@[simp] theorem State.setRip_cpu_rflags (s : State) (x : Word64) : (s.setRip x).cpu.rflags = s.cpu.rflags := rfl
@[simp] theorem State.setRip_cpu_mode (s : State) (x : Word64) : (s.setRip x).cpu.mode = s.cpu.mode := rfl
@[simp] theorem State.setRip_cpu_ipWidth (s : State) (x : Word64) : (s.setRip x).cpu.ipWidth = s.cpu.ipWidth := rfl
@[simp] theorem State.setRip_cpu_cpl (s : State) (x : Word64) : (s.setRip x).cpu.cpl = s.cpu.cpl := rfl
@[simp] theorem State.setRip_cpu_lma (s : State) (x : Word64) : (s.setRip x).cpu.lma = s.cpu.lma := rfl
@[simp] theorem State.setRip_cpu_cr0 (s : State) (x : Word64) : (s.setRip x).cpu.cr0 = s.cpu.cr0 := rfl
@[simp] theorem State.setRip_cpu_cr3 (s : State) (x : Word64) : (s.setRip x).cpu.cr3 = s.cpu.cr3 := rfl
@[simp] theorem State.setRip_cpu_cr4 (s : State) (x : Word64) : (s.setRip x).cpu.cr4 = s.cpu.cr4 := rfl
@[simp] theorem State.setRip_cpu_dr7 (s : State) (x : Word64) : (s.setRip x).cpu.dr7 = s.cpu.dr7 := rfl
@[simp] theorem State.setRip_cpu_debugctl (s : State) (x : Word64) : (s.setRip x).cpu.debugctl = s.cpu.debugctl := rfl
@[simp] theorem State.setRip_cpu_sysenterEsp (s : State) (x : Word64) : (s.setRip x).cpu.sysenterEsp = s.cpu.sysenterEsp := rfl
@[simp] theorem State.setRip_cpu_sysenterRip (s : State) (x : Word64) : (s.setRip x).cpu.sysenterRip = s.cpu.sysenterRip := rfl
@[simp] theorem State.setRip_cpu_cs (s : State) (x : Word64) : (s.setRip x).cpu.cs = s.cpu.cs := rfl
@[simp] theorem State.setRip_cpu_ss (s : State) (x : Word64) : (s.setRip x).cpu.ss = s.cpu.ss := rfl
@[simp] theorem State.setRip_cpu_ds (s : State) (x : Word64) : (s.setRip x).cpu.ds = s.cpu.ds := rfl
@[simp] theorem State.setRip_cpu_es (s : State) (x : Word64) : (s.setRip x).cpu.es = s.cpu.es := rfl
@[simp] theorem State.setRip_cpu_fs (s : State) (x : Word64) : (s.setRip x).cpu.fs = s.cpu.fs := rfl
@[simp] theorem State.setRip_cpu_gs (s : State) (x : Word64) : (s.setRip x).cpu.gs = s.cpu.gs := rfl
@[simp] theorem State.setRip_cpu_tr (s : State) (x : Word64) : (s.setRip x).cpu.tr = s.cpu.tr := rfl
@[simp] theorem State.setRip_cpu_ldtr (s : State) (x : Word64) : (s.setRip x).cpu.ldtr = s.cpu.ldtr := rfl
@[simp] theorem State.setRip_cpu_gdtr (s : State) (x : Word64) : (s.setRip x).cpu.gdtr = s.cpu.gdtr := rfl
@[simp] theorem State.setRip_cpu_idtr (s : State) (x : Word64) : (s.setRip x).cpu.idtr = s.cpu.idtr := rfl

@[simp] theorem State.setRflags_vmxMode (s : State) (x : Word64) : (s.setRflags x).vmxMode = s.vmxMode := rfl
@[simp] theorem State.setRflags_monitorArmed (s : State) (x : Word64) : (s.setRflags x).monitorArmed = s.monitorArmed := rfl
@[simp] theorem State.setRflags_movssBlocking (s : State) (x : Word64) : (s.setRflags x).movssBlocking = s.movssBlocking := rfl
@[simp] theorem State.setRflags_currentVmcs (s : State) (x : Word64) : (s.setRflags x).currentVmcs = s.currentVmcs := rfl
@[simp] theorem State.setRflags_mem (s : State) (x : Word64) : (s.setRflags x).mem = s.mem := rfl
@[simp] theorem State.setRflags_code (s : State) (x : Word64) : (s.setRflags x).code = s.code := rfl
@[simp] theorem State.setRflags_draws (s : State) (x : Word64) : (s.setRflags x).draws = s.draws := rfl
@[simp] theorem State.setRflags_cpu_rip (s : State) (x : Word64) : (s.setRflags x).cpu.rip = s.cpu.rip := rfl
@[simp] theorem State.setRflags_cpu_rflags (s : State) (x : Word64) : (s.setRflags x).cpu.rflags = x := rfl
@[simp] theorem State.setRflags_cpu_mode (s : State) (x : Word64) : (s.setRflags x).cpu.mode = s.cpu.mode := rfl
@[simp] theorem State.setRflags_cpu_ipWidth (s : State) (x : Word64) : (s.setRflags x).cpu.ipWidth = s.cpu.ipWidth := rfl
@[simp] theorem State.setRflags_cpu_cpl (s : State) (x : Word64) : (s.setRflags x).cpu.cpl = s.cpu.cpl := rfl
@[simp] theorem State.setRflags_cpu_lma (s : State) (x : Word64) : (s.setRflags x).cpu.lma = s.cpu.lma := rfl
@[simp] theorem State.setRflags_cpu_cr0 (s : State) (x : Word64) : (s.setRflags x).cpu.cr0 = s.cpu.cr0 := rfl
@[simp] theorem State.setRflags_cpu_cr3 (s : State) (x : Word64) : (s.setRflags x).cpu.cr3 = s.cpu.cr3 := rfl
@[simp] theorem State.setRflags_cpu_cr4 (s : State) (x : Word64) : (s.setRflags x).cpu.cr4 = s.cpu.cr4 := rfl
@[simp] theorem State.setRflags_cpu_dr7 (s : State) (x : Word64) : (s.setRflags x).cpu.dr7 = s.cpu.dr7 := rfl
@[simp] theorem State.setRflags_cpu_debugctl (s : State) (x : Word64) : (s.setRflags x).cpu.debugctl = s.cpu.debugctl := rfl
@[simp] theorem State.setRflags_cpu_sysenterEsp (s : State) (x : Word64) : (s.setRflags x).cpu.sysenterEsp = s.cpu.sysenterEsp := rfl
@[simp] theorem State.setRflags_cpu_sysenterRip (s : State) (x : Word64) : (s.setRflags x).cpu.sysenterRip = s.cpu.sysenterRip := rfl
@[simp] theorem State.setRflags_cpu_cs (s : State) (x : Word64) : (s.setRflags x).cpu.cs = s.cpu.cs := rfl
@[simp] theorem State.setRflags_cpu_ss (s : State) (x : Word64) : (s.setRflags x).cpu.ss = s.cpu.ss := rfl
@[simp] theorem State.setRflags_cpu_ds (s : State) (x : Word64) : (s.setRflags x).cpu.ds = s.cpu.ds := rfl
@[simp] theorem State.setRflags_cpu_es (s : State) (x : Word64) : (s.setRflags x).cpu.es = s.cpu.es := rfl
@[simp] theorem State.setRflags_cpu_fs (s : State) (x : Word64) : (s.setRflags x).cpu.fs = s.cpu.fs := rfl
@[simp] theorem State.setRflags_cpu_gs (s : State) (x : Word64) : (s.setRflags x).cpu.gs = s.cpu.gs := rfl
@[simp] theorem State.setRflags_cpu_tr (s : State) (x : Word64) : (s.setRflags x).cpu.tr = s.cpu.tr := rfl
@[simp] theorem State.setRflags_cpu_ldtr (s : State) (x : Word64) : (s.setRflags x).cpu.ldtr = s.cpu.ldtr := rfl
@[simp] theorem State.setRflags_cpu_gdtr (s : State) (x : Word64) : (s.setRflags x).cpu.gdtr = s.cpu.gdtr := rfl
@[simp] theorem State.setRflags_cpu_idtr (s : State) (x : Word64) : (s.setRflags x).cpu.idtr = s.cpu.idtr := rfl

/-! ### A loaded processor state keeps CR0.NW and CR0.CD -/

@[simp] theorem Processor.keepCacheBits_rip (old new : Processor) : (old.keepCacheBits new).rip = new.rip := rfl
@[simp] theorem Processor.keepCacheBits_rflags (old new : Processor) : (old.keepCacheBits new).rflags = new.rflags := rfl
@[simp] theorem Processor.keepCacheBits_mode (old new : Processor) : (old.keepCacheBits new).mode = new.mode := rfl
@[simp] theorem Processor.keepCacheBits_ipWidth (old new : Processor) : (old.keepCacheBits new).ipWidth = new.ipWidth := rfl
@[simp] theorem Processor.keepCacheBits_cpl (old new : Processor) : (old.keepCacheBits new).cpl = new.cpl := rfl
@[simp] theorem Processor.keepCacheBits_lma (old new : Processor) : (old.keepCacheBits new).lma = new.lma := rfl
@[simp] theorem Processor.keepCacheBits_cr0 (old new : Processor) :
    (old.keepCacheBits new).cr0 = (new.cr0 &&& ~~~cr0CacheBits) ||| (old.cr0 &&& cr0CacheBits) := rfl
@[simp] theorem Processor.keepCacheBits_cr3 (old new : Processor) : (old.keepCacheBits new).cr3 = new.cr3 := rfl
@[simp] theorem Processor.keepCacheBits_cr4 (old new : Processor) : (old.keepCacheBits new).cr4 = new.cr4 := rfl
@[simp] theorem Processor.keepCacheBits_dr7 (old new : Processor) : (old.keepCacheBits new).dr7 = new.dr7 := rfl
@[simp] theorem Processor.keepCacheBits_debugctl (old new : Processor) : (old.keepCacheBits new).debugctl = new.debugctl := rfl
@[simp] theorem Processor.keepCacheBits_sysenterEsp (old new : Processor) : (old.keepCacheBits new).sysenterEsp = new.sysenterEsp := rfl
@[simp] theorem Processor.keepCacheBits_sysenterRip (old new : Processor) : (old.keepCacheBits new).sysenterRip = new.sysenterRip := rfl
@[simp] theorem Processor.keepCacheBits_cs (old new : Processor) : (old.keepCacheBits new).cs = new.cs := rfl
@[simp] theorem Processor.keepCacheBits_ss (old new : Processor) : (old.keepCacheBits new).ss = new.ss := rfl
@[simp] theorem Processor.keepCacheBits_ds (old new : Processor) : (old.keepCacheBits new).ds = new.ds := rfl
@[simp] theorem Processor.keepCacheBits_es (old new : Processor) : (old.keepCacheBits new).es = new.es := rfl
@[simp] theorem Processor.keepCacheBits_fs (old new : Processor) : (old.keepCacheBits new).fs = new.fs := rfl
@[simp] theorem Processor.keepCacheBits_gs (old new : Processor) : (old.keepCacheBits new).gs = new.gs := rfl
@[simp] theorem Processor.keepCacheBits_tr (old new : Processor) : (old.keepCacheBits new).tr = new.tr := rfl
@[simp] theorem Processor.keepCacheBits_ldtr (old new : Processor) : (old.keepCacheBits new).ldtr = new.ldtr := rfl
@[simp] theorem Processor.keepCacheBits_gdtr (old new : Processor) : (old.keepCacheBits new).gdtr = new.gdtr := rfl
@[simp] theorem Processor.keepCacheBits_idtr (old new : Processor) : (old.keepCacheBits new).idtr = new.idtr := rfl

/-! ### Updates of a VMCS -/

@[simp] theorem Vmcs.setError_launchState (v : Vmcs) (x : Word32) : (v.setError x).launchState = v.launchState := rfl
@[simp] theorem Vmcs.setError_vmInstructionError (v : Vmcs) (x : Word32) : (v.setError x).vmInstructionError = x := rfl
@[simp] theorem Vmcs.setError_exitInfo (v : Vmcs) (x : Word32) : (v.setError x).exitInfo = v.exitInfo := rfl
@[simp] theorem Vmcs.setError_ctl (v : Vmcs) (x : Word32) : (v.setError x).ctl = v.ctl := rfl
@[simp] theorem Vmcs.setError_host (v : Vmcs) (x : Word32) : (v.setError x).host = v.host := rfl
@[simp] theorem Vmcs.setError_guest (v : Vmcs) (x : Word32) : (v.setError x).guest = v.guest := rfl

@[simp] theorem Vmcs.setLaunchState_launchState (v : Vmcs) (x : LaunchState) : (v.setLaunchState x).launchState = x := rfl
@[simp] theorem Vmcs.setLaunchState_vmInstructionError (v : Vmcs) (x : LaunchState) : (v.setLaunchState x).vmInstructionError = v.vmInstructionError := rfl
@[simp] theorem Vmcs.setLaunchState_exitInfo (v : Vmcs) (x : LaunchState) : (v.setLaunchState x).exitInfo = v.exitInfo := rfl
@[simp] theorem Vmcs.setLaunchState_ctl (v : Vmcs) (x : LaunchState) : (v.setLaunchState x).ctl = v.ctl := rfl
@[simp] theorem Vmcs.setLaunchState_host (v : Vmcs) (x : LaunchState) : (v.setLaunchState x).host = v.host := rfl
@[simp] theorem Vmcs.setLaunchState_guest (v : Vmcs) (x : LaunchState) : (v.setLaunchState x).guest = v.guest := rfl

@[simp] theorem Vmcs.setExitInfo_launchState (v : Vmcs) (x : List Word64) : (v.setExitInfo x).launchState = v.launchState := rfl
@[simp] theorem Vmcs.setExitInfo_vmInstructionError (v : Vmcs) (x : List Word64) : (v.setExitInfo x).vmInstructionError = v.vmInstructionError := rfl
@[simp] theorem Vmcs.setExitInfo_exitInfo (v : Vmcs) (x : List Word64) : (v.setExitInfo x).exitInfo = x := rfl
@[simp] theorem Vmcs.setExitInfo_ctl (v : Vmcs) (x : List Word64) : (v.setExitInfo x).ctl = v.ctl := rfl
@[simp] theorem Vmcs.setExitInfo_host (v : Vmcs) (x : List Word64) : (v.setExitInfo x).host = v.host := rfl
@[simp] theorem Vmcs.setExitInfo_guest (v : Vmcs) (x : List Word64) : (v.setExitInfo x).guest = v.guest := rfl

@[simp] theorem Vmcs.setIntInfo_launchState (v : Vmcs) (x : Word32) : (v.setIntInfo x).launchState = v.launchState := rfl
@[simp] theorem Vmcs.setIntInfo_vmInstructionError (v : Vmcs) (x : Word32) : (v.setIntInfo x).vmInstructionError = v.vmInstructionError := rfl
@[simp] theorem Vmcs.setIntInfo_exitInfo (v : Vmcs) (x : Word32) : (v.setIntInfo x).exitInfo = v.exitInfo := rfl
@[simp] theorem Vmcs.setIntInfo_host (v : Vmcs) (x : Word32) : (v.setIntInfo x).host = v.host := rfl
@[simp] theorem Vmcs.setIntInfo_guest (v : Vmcs) (x : Word32) : (v.setIntInfo x).guest = v.guest := rfl
@[simp] theorem Vmcs.setIntInfo_ctl_pinBased (v : Vmcs) (x : Word32) : (v.setIntInfo x).ctl.pinBased = v.ctl.pinBased := rfl
@[simp] theorem Vmcs.setIntInfo_ctl_procBased (v : Vmcs) (x : Word32) : (v.setIntInfo x).ctl.procBased = v.ctl.procBased := rfl
@[simp] theorem Vmcs.setIntInfo_ctl_exit (v : Vmcs) (x : Word32) : (v.setIntInfo x).ctl.exit = v.ctl.exit := rfl
@[simp] theorem Vmcs.setIntInfo_ctl_entry (v : Vmcs) (x : Word32) : (v.setIntInfo x).ctl.entry = v.ctl.entry := rfl
@[simp] theorem Vmcs.setIntInfo_ctl_cr3TargetCount (v : Vmcs) (x : Word32) : (v.setIntInfo x).ctl.cr3TargetCount = v.ctl.cr3TargetCount := rfl
@[simp] theorem Vmcs.setIntInfo_ctl_entryIntInfo (v : Vmcs) (x : Word32) : (v.setIntInfo x).ctl.entryIntInfo = x := rfl
@[simp] theorem Vmcs.setIntInfo_ctl_entryExcErrorCode (v : Vmcs) (x : Word32) : (v.setIntInfo x).ctl.entryExcErrorCode = v.ctl.entryExcErrorCode := rfl
@[simp] theorem Vmcs.setIntInfo_ctl_entryInsnLen (v : Vmcs) (x : Word32) : (v.setIntInfo x).ctl.entryInsnLen = v.ctl.entryInsnLen := rfl
@[simp] theorem Vmcs.setIntInfo_ctl_ioBitmapA (v : Vmcs) (x : Word32) : (v.setIntInfo x).ctl.ioBitmapA = v.ctl.ioBitmapA := rfl
@[simp] theorem Vmcs.setIntInfo_ctl_ioBitmapB (v : Vmcs) (x : Word32) : (v.setIntInfo x).ctl.ioBitmapB = v.ctl.ioBitmapB := rfl
@[simp] theorem Vmcs.setIntInfo_ctl_virtualApicPage (v : Vmcs) (x : Word32) : (v.setIntInfo x).ctl.virtualApicPage = v.ctl.virtualApicPage := rfl
@[simp] theorem Vmcs.setIntInfo_ctl_tprThreshold (v : Vmcs) (x : Word32) : (v.setIntInfo x).ctl.tprThreshold = v.ctl.tprThreshold := rfl
@[simp] theorem Vmcs.setIntInfo_ctl_exitMsrStore (v : Vmcs) (x : Word32) : (v.setIntInfo x).ctl.exitMsrStore = v.ctl.exitMsrStore := rfl
@[simp] theorem Vmcs.setIntInfo_ctl_exitMsrLoad (v : Vmcs) (x : Word32) : (v.setIntInfo x).ctl.exitMsrLoad = v.ctl.exitMsrLoad := rfl
@[simp] theorem Vmcs.setIntInfo_ctl_entryMsrLoad (v : Vmcs) (x : Word32) : (v.setIntInfo x).ctl.entryMsrLoad = v.ctl.entryMsrLoad := rfl

end Sys2Proof.Machine
end

