-- ==== Sys2Proof/Laws/Ops.lean ====
section
/-! SUPPORT. One lemma per shared operation: all that it can do. -/

namespace Sys2Proof.Machine

/-- Where the next instruction lies in range, `nextRip` is `pc + INSN_LEN`. -/
theorem nextRip_eq {p : Impl} {c : Processor} {rip : Word64} (h : nextRip p c = some rip) :
    rip = c.rip + BitVec.ofNat 64 p.insnLen := by
  unfold nextRip at h
  split at h
  · injection h with h; exact h.symm
  · cases h

/-- Bits outside the status flags survive a VM-instruction failure. -/
theorem failureFlags_outside {flag others rflags : Word64} {k : Nat} (hk : statusFlags.getLsbD k = false)
    (hf : flag.getLsbD k = false) : (failureFlags flag others rflags).getLsbD k = rflags.getLsbD k := by
  by_cases h : k < 64
  · rw [BitVec.getLsbD_eq_getElem h] at hk hf
    simp [failureFlags, hk, hf, h]
  · simp [failureFlags, BitVec.getLsbD_of_ge _ k (by omega : 64 ≤ k)]

/-- The flag a VM-instruction failure sets is 1 after it. -/
theorem failureFlags_flag {flag others rflags : Word64} {k : Nat} (hf : flag.getLsbD k = true) :
    (failureFlags flag others rflags).getLsbD k = true := by
  simp [failureFlags, hf]

/-- `VMfailInvalid` gives a next state only one way. -/
theorem vmFailInvalid_next {p : Impl} {s t : State} (h : vmFailInvalid p s = .next t) :
    ∃ rip, nextRip p s.cpu = some rip ∧ t = failToNext p flagCF rip s := by
  unfold vmFailInvalid at h
  split at h
  · next rip hr => exact ⟨rip, hr, by injection h with h; exact h.symm⟩
  · cases h

/-- `VMfailValid` gives a next state only one way. -/
theorem vmFailValid_next {p : Impl} {e : Word32} {s t : State} (h : vmFailValid p e s = .next t) :
    ∃ rip, nextRip p s.cpu = some rip ∧ t = (failToNext p flagZF rip s).mapVmcs (·.setError e) := by
  unfold vmFailValid at h
  split at h
  · next rip hr => exact ⟨rip, hr, by injection h with h; exact h.symm⟩
  · cases h

/-- What a VM-instruction failure leaves in each field. -/
theorem failToNext_fields (p : Impl) (flag rip : Word64) (s : State) :
    (failToNext p flag rip s).cpu
        = { s.cpu with rip := rip, rflags := failureFlags flag (otherStatusFlags p s) s.cpu.rflags }
      ∧ (failToNext p flag rip s).vmxMode = s.vmxMode ∧ (failToNext p flag rip s).monitorArmed = s.monitorArmed
      ∧ (failToNext p flag rip s).movssBlocking = p.movssAfter s
      ∧ (failToNext p flag rip s).currentVmcs = s.currentVmcs ∧ (failToNext p flag rip s).mem = s.mem
      ∧ (failToNext p flag rip s).code = s.code ∧ (failToNext p flag rip s).draws = s.draws + 1 :=
  ⟨rfl, rfl, rfl, rfl, rfl, rfl, rfl, rfl⟩

/-- What a failure like a VM exit leaves in each field. -/
theorem entryFailsLikeExit_fields (p : Impl) (cause : FailureCause) (s : State) :
    (entryFailsLikeExit p cause s).cpu = s.cpu.keepCacheBits (p.hostLoad cause s)
      ∧ (entryFailsLikeExit p cause s).vmxMode = s.vmxMode
      ∧ (entryFailsLikeExit p cause s).currentVmcs = s.currentVmcs.map (·.setExitInfo (p.exitInfo cause s))
      ∧ (entryFailsLikeExit p cause s).mem = writePhys p s.mem (p.exitWrites cause s)
      ∧ (entryFailsLikeExit p cause s).code = Memory.ofCells (p.fetchView s)
      ∧ (entryFailsLikeExit p cause s).draws = s.draws + 1 :=
  ⟨rfl, rfl, rfl, rfl, rfl, rfl⟩

/-- A loaded processor state keeps CR0.NW and CR0.CD. -/
@[simp] theorem keepCacheBits_cacheBits (old new : Processor) :
    (old.keepCacheBits new).cr0 &&& cr0CacheBits = old.cr0 &&& cr0CacheBits := by
  ext i hi; simp; grind

/-- Step 4 changes the processor alone, and that by a load. -/
theorem loadMsrs_next {p : Impl} {s t : State} (h : loadMsrs p s = some t) : ∃ c, t = s.loadCpu c ∨ t = s := by
  unfold loadMsrs at h
  split at h
  · obtain ⟨c, -, hc⟩ := Option.map_eq_some_iff.1 h
    exact ⟨c, .inl hc.symm⟩
  · exact ⟨s.cpu, .inr (by injection h with h; exact h.symm)⟩

/-- Step 6 either injects nothing, or loads a processor state, writes ordinary memory and the interruption-information
field. -/
theorem injectEvent_cases (p : Impl) (s : State) :
    injectEvent p s = s ∨ injectEvent p s
      = ((s.loadCpu (p.inject s).cpu).setMem (writePhys p s.mem (p.inject s).writes)).mapVmcs
          (·.setIntInfo (p.inject s).intInfo) := by
  unfold injectEvent
  split
  · exact .inr rfl
  · exact .inl rfl

/-- The two ways a VM entry goes on after its surviving checks: into the guest, or a failure like a VM exit. -/
theorem continueEntry_cases (p : Impl) (kind : EntryKind) (s : State) :
    (∃ s4, p.lostGuestChecksPass s = true ∧ loadMsrs p (loadGuestState p s) = some s4
        ∧ continueEntry p kind s = inGuest p (injectEvent p (markLaunched kind s4)))
      ∨ (p.lostGuestChecksPass s = true ∧ loadMsrs p (loadGuestState p s) = none
        ∧ continueEntry p kind s = entryFailsLikeExit p .msrLoad (loadGuestState p s))
      ∨ (p.lostGuestChecksPass s = false ∧ continueEntry p kind s = entryFailsLikeExit p .guestState s) := by
  unfold continueEntry
  cases h : p.lostGuestChecksPass s with
  | false => exact .inr (.inr ⟨rfl, rfl⟩)
  | true =>
    cases hm : loadMsrs p (loadGuestState p s) with
    | some s4 => exact .inl ⟨s4, rfl, rfl, rfl⟩
    | none => exact .inr (.inl ⟨rfl, rfl, rfl⟩)

/-- The number step 2 reports is one of the set `E`. -/
theorem chooseError_mem {b : Bool} {es : List Word32} {e : Word32} (h : chooseError b es = some e) : e ∈ es := by
  match es with
  | [] => cases h
  | [x] => injection h with h; simp [h]
  | x :: y :: _ =>
    injection h with h
    cases b <;> simp at h <;> simp [h]

end Sys2Proof.Machine
end

