-- ==== Sys2Proof/Laws/PerInstr.lean ====
section
/-! SUPPORT. Facts about every instruction as syntax, one lemma per constructor. -/

namespace Sys2Proof.Laws.EncodedLength

/-- An instruction is well formed and its encoding is as long as `INSN_LEN`, so that "the next instruction" is the one after
its bytes (30_encoding.md R57, 10_state.md R11). -/
def Statement (i : Instr) : Prop := i.wf = true ∧ (encode i).length = Machine.impl.insnLen

theorem vmlaunch : Statement .vmlaunch := ⟨rfl, rfl⟩

theorem vmresume : Statement .vmresume := ⟨rfl, rfl⟩

end Sys2Proof.Laws.EncodedLength
end

