-- ==== Sys2Proof/Laws/Run.lean ====
section
/-! SUPPORT. Runs of several steps: a run is its first step and the rest, and what every step keeps every run keeps. -/

namespace Sys2Proof.Machine

/-- A run of one or more steps that ends in a state is a step and a run of the rest. -/
theorem coreRun_succ (M : Host.Core) {n : Nat} {s t : M.State} (h : M.run (n + 1) s = .next t) :
    ∃ u, M.step s = .next u ∧ M.run n u = .next t := by
  rw [Host.Core.run] at h
  split at h
  · next u hu => exact ⟨u, hu, h⟩
  · cases h
  · cases h

/-- The same of this machine. -/
theorem run_succ {n : Nat} {s t : State} (h : core.run (n + 1) s = .next t) :
    ∃ u : State, step s = .next u ∧ core.run n u = .next t := coreRun_succ core h

/-- A run of no steps ends where it starts. -/
theorem run_zero {s t : State} (h : core.run 0 s = .next t) : t = s := by injection h with h; exact h.symm

/-- A relation that holds between a state and itself, and that a step before a run keeps, holds over every run. -/
theorem run_induction (P : State → State → Prop) (refl : ∀ s, P s s)
    (cons : ∀ s t u, step s = .next t → P t u → P s u) : ∀ n (s t : State), core.run n s = .next t → P s t := by
  intro n
  induction n with
  | zero => intro s t h; rw [run_zero h]; exact refl s
  | succ n ih =>
    intro s t h
    obtain ⟨u, hs, hr⟩ := run_succ h
    exact cons _ _ _ hs (ih _ _ hr)

end Sys2Proof.Machine
end

