-- ==== Sys2Proof/Laws/VmEntry.lean ====
section
/-! SUPPORT. What a VM entry, an instruction and a step can do, said once. -/

namespace Sys2Proof.Machine

/-- The kind of VM entry an instruction invokes. -/
theorem exec_vmEntry (i : Instr) (s : State) : ∃ kind, exec i s = vmEntry impl kind s := by
  cases i
  · exact ⟨.launch, rfl⟩
  · exact ⟨.resume, rfl⟩

/-- A VM entry gives a next state in exactly these ways; the outcome says which. -/
theorem vmEntry_next {p : Impl} {kind : EntryKind} {s t : State} (h : vmEntry p kind s = .next t) :
    (entryOutcome p kind s = .vmFailInvalid ∧ vmFailInvalid p s = .next t)
      ∨ (∃ e, entryOutcome p kind s = .vmFailValid e ∧ vmFailValid p e s = .next t)
      ∨ (entryOutcome p kind s = .entryFailsLikeExit ∧ t = entryFailsLikeExit p .guestState s)
      ∨ (entryOutcome p kind s = .checksPassed ∧ t = continueEntry p kind s) := by
  unfold vmEntry at h
  cases ho : entryOutcome p kind s with
  | invalidOpcode => rw [ho] at h; cases h
  | generalProtection => rw [ho] at h; cases h
  | vmFailInvalid => rw [ho] at h; exact .inl ⟨rfl, h⟩
  | vmFailValid e => rw [ho] at h; exact .inr (.inl ⟨e, rfl, h⟩)
  | entryFailsLikeExit => rw [ho] at h; injection h with h; exact .inr (.inr (.inl ⟨rfl, h.symm⟩))
  | checksPassed => rw [ho] at h; injection h with h; exact .inr (.inr (.inr ⟨rfl, h.symm⟩))
  | refuse r => rw [ho] at h; cases h

/-- Past step 1 the outcome is that of the checks on the current VMCS. -/
theorem entryOutcome_of_step1 {p : Impl} {kind : EntryKind} {s : State} {v : Vmcs} (h : s.PassesStep1 kind v) :
    entryOutcome p kind s = checkVmcs p s v := by
  obtain ⟨hroot, hmode, hcpl, hv, hss, hl⟩ := h
  simp [entryOutcome, hroot, hmode, hcpl, hv, hss, hl]

/-- An outcome that is neither a fault nor a refusal is reached in VMX root operation, mode `other`, at CPL 0. -/
theorem entryOutcome_privileged {p : Impl} {kind : EntryKind} {s : State}
    (h1 : entryOutcome p kind s ≠ .invalidOpcode) (h2 : entryOutcome p kind s ≠ .generalProtection)
    (h3 : entryOutcome p kind s ≠ .refuse .outsideVmxRootOperation) :
    s.vmxMode = .root ∧ s.cpu.mode = .other ∧ s.cpu.cpl = 0 := by
  unfold entryOutcome at h1 h2 h3
  by_cases hr : s.vmxMode = .root
  · by_cases hm : s.cpu.mode = .virtual8086 ∨ s.cpu.mode = .compatibility
    · simp [hr, hm] at h1
    · by_cases hc : s.cpu.cpl = 0
      · exact ⟨hr, by cases hx : s.cpu.mode <;> simp_all, hc⟩
      · rw [if_neg (by simp [hr]), if_neg hm, if_pos hc] at h2; exact absurd rfl h2
  · simp [hr] at h3

/-- `VMfailInvalid` is the outcome only without a current VMCS. -/
theorem entryOutcome_vmFailInvalid {p : Impl} {kind : EntryKind} {s : State}
    (h : entryOutcome p kind s = .vmFailInvalid) : s.currentVmcs = none := by
  cases hv : s.currentVmcs with
  | none => rfl
  | some v =>
    unfold entryOutcome at h
    simp only [hv] at h
    repeat' split at h
    all_goals first
      | cases h
      | (unfold checkVmcs at h; repeat' split at h
         all_goals cases h)

/-- The checks on the VMCS are reached only past step 1: the outcomes that they alone give say so. -/
theorem entryOutcome_passed {p : Impl} {kind : EntryKind} {s : State}
    (h : entryOutcome p kind s = .checksPassed ∨ entryOutcome p kind s = .entryFailsLikeExit) :
    ∃ v, s.PassesStep1 kind v ∧ checkVmcs p s v = entryOutcome p kind s := by
  have hp := entryOutcome_privileged (p := p) (kind := kind) (s := s)
    (by rcases h with h | h <;> simp [h]) (by rcases h with h | h <;> simp [h]) (by rcases h with h | h <;> simp [h])
  obtain ⟨hr, hm, hc⟩ := hp
  cases hv : s.currentVmcs with
  | none => simp [entryOutcome, hr, hm, hc, hv] at h
  | some v =>
    by_cases hss : s.movssBlocking = true
    · simp [entryOutcome, hr, hm, hc, hv, hss] at h
    · by_cases hl : v.launchState = kind.needs
      · have h1 : s.PassesStep1 kind v := ⟨hr, hm, hc, hv, by simpa using hss, hl⟩
        exact ⟨v, h1, (entryOutcome_of_step1 h1).symm⟩
      · simp [entryOutcome, hr, hm, hc, hv, hss, hl] at h

/-- `ChecksPassed` means that every check of steps 2 and 3 passed. -/
theorem checkVmcs_passed {p : Impl} {s : State} {v : Vmcs} (h : checkVmcs p s v = .checksPassed) :
    controlChecksPass p s.mem v = true ∧ hostChecksPass p v = true ∧ addrSpaceChecksPass p s.cpu.lma v = true
      ∧ guestRegisterChecksPass p v = true ∧ guestSegmentChecksPass p s v = true := by
  have hE : step2Errors p s v = [] ∧ (guestRegisterChecksPass p v && guestSegmentChecksPass p s v) = true := by
    unfold checkVmcs at h
    split at h
    · cases h
    · split at h
      · cases h
      · next hc =>
        split at h
        · next hg =>
          refine ⟨?_, hg⟩
          match hs : step2Errors p s v with
          | [] => rfl
          | [x] => rw [hs] at hc; cases hc
          | x :: y :: r => rw [hs] at hc; cases hc
        · cases h
  obtain ⟨he, hg⟩ := hE
  simp only [step2Errors, List.append_eq_nil_iff] at he
  grind

/-- A step that gives a next state ran an instruction's VM entry. -/
theorem step_next {s t : State} (h : step s = .next t) : ∃ i kind, exec i s = .next t ∧ vmEntry impl kind s = .next t := by
  unfold step at h
  split at h
  · next i _ _ =>
    obtain ⟨kind, hk⟩ := exec_vmEntry i s
    exact ⟨i, kind, h, hk ▸ h⟩
  · cases h

end Sys2Proof.Machine
end

