-- ==== Sys2Proof/Tests/Slice0.lean ====
section
/-! SUPPORT. The model's own tests. Expected results are those of 95_test_vectors.md (its vector names stand beside them) or
are counted by hand from the rules named. The witnesses at the end meet the hypotheses of the statements. -/

namespace Sys2Proof.Tests

open Sys2Proof Sys2Proof.Machine

/- One theorem after another: `decide +kernel` waits for every theorem before it, each wait holding a thread and its stack. -/
set_option Elab.async false

/-! ### Decoding: words written out from 30_encoding.md R56 -/

/-- `0F 01 C2` is 0000_1111 0000_0001 1100_0010, `0F 01 C3` is 0000_1111 0000_0001 1100_0011. -/
theorem test_decode_words :
    decodeTableWord 24 0b000011110000000111000010 = some .vmlaunch
      ∧ decodeTableWord 24 0b000011110000000111000011 = some .vmresume := by decide

theorem test_decode_bytes :
    decode [0x0F, 0x01, 0xC2, 0x90] = .ok (.vmlaunch, [0x90]) ∧ decode [0x0F, 0x01, 0xC3] = .ok (.vmresume, []) := by decide

/-- 30_encoding.md R57, R59: neighbours, prefixed forms and cut-off forms are refused by name. -/
theorem test_decode_refusals :
    decode [0x0F, 0x01, 0xC1] = .error .notVmEntryInstruction ∧ decode [0x0F, 0x01, 0xC4] = .error .notVmEntryInstruction
      ∧ decode [0xF3, 0x0F, 0x01, 0xC2] = .error .prefixedForm ∧ decode [0x48, 0x0F, 0x01, 0xC3] = .error .prefixedForm
      ∧ decode [0x66] = .error .tooFewBytes ∧ decode [0x66, 0x90, 0x90, 0x90] = .error .notVmEntryInstruction
      ∧ decode [0x0F, 0x01] = .error .tooFewBytes ∧ decode [0x90] = .error .notVmEntryInstruction := by decide

/-! ### The instantiation of 95_test_vectors.md section 2 -/

/-- The parameters of 95_test_vectors.md section 2, no reserved bit in a control word, every free value plain. -/
def demo : Impl where
  paw := 36
  law := 48
  pinMust1 := 0
  pinMust0 := 0
  procMust1 := 0
  procMust0 := 0
  exitMust1 := 0
  exitMust0 := 0
  entryMust1 := 0
  entryMust0 := 0
  cr3TargetMax := 4
  cr0Must1 := 0x80000021
  cr0Must0 := 0
  cr4Must1 := 0x2000
  cr4Must0 := 0
  debugctlRsvd := 0xFFFFFFFFFFFFFFFC
  errMovss := 26
  errLaunchNotClear := 4
  errResumeNotLaunched := 5
  errEntryCtrl := 7
  errEntryHost := 8
  itypeExtInt := 0
  itypeNmi := 2
  itypeHwExc := 3
  itypeSwInt := 4
  itypePrivSwExc := 5
  itypeSwExc := 6
  ctlActivateIoBitmaps := 25
  ctlUseTprShadow := 21
  ctlHostAddrSpaceSize := 9
  ctlIa32eModeGuest := 9
  insnLen := 3
  v86Base sel := (sel.setWidth 64) <<< 4
  checkRsvd3117Other := .either
  vmfailOtherFlags := .clear
  isRam _ := true
  unwrittenByte _ := 0
  otherFlags _ := 0
  movssAfter _ := false
  reportsHostError _ := false
  rsvd3117Verdict _ := false
  lostGuestChecksPass _ := true
  guestLoad s := s.cpu
  msrLoad s := some s.cpu
  inject s := { cpu := s.cpu, writes := [(0x9000, 1)], intInfo := 0 }
  hostLoad _ s := s.cpu
  exitInfo _ _ := [1]
  exitWrites _ _ := []
  monitorAfterFailure _ := false
  fetchView _ := []

/-- A segment register. -/
def seg (sel : Word16) (base : Word64) (limit ar : Word32) : Segment := { sel, base, limit, ar }

/-- An unusable segment register. -/
def unusable : Segment := seg 0 0 0 0x00010000

/-- The baseline `V32`. -/
def v32 : Vmcs where
  launchState := .clear
  vmInstructionError := 0
  exitInfo := []
  ctl := default
  host := { (default : HostState) with
    cr0 := 0x80050033, cr4 := 0x2020, cr3 := 0x101000, csSel := 0x10, ssSel := 0x18, dsSel := 0x18, esSel := 0x18
    trSel := 0x28, gdtrBase := 0xC0100000, idtrBase := 0xC0101000, trBase := 0xC0102000, rip := 0xC0003000 }
  guest := { (default : GuestState) with
    cr0 := 0x80050033, cr4 := 0x2000, cr3 := 0x200000, dr7 := 0x400, rflags := 0x2, rip := 0x100000
    gdtr := ⟨0x6000, 0xFFFF⟩, idtr := ⟨0x7000, 0x7FF⟩
    cs := seg 0x08 0 0xFFFFFFFF 0xC09B, ss := seg 0x10 0 0xFFFFFFFF 0xC093, ds := seg 0x10 0 0xFFFFFFFF 0xC093
    es := seg 0x10 0 0xFFFFFFFF 0xC093, fs := unusable, gs := unusable, ldtr := unusable, tr := seg 0x18 0x5000 0x67 0x8B }

/-- The baseline `V64`. -/
def v64 : Vmcs where
  launchState := .clear
  vmInstructionError := 0
  exitInfo := []
  ctl := { (default : Controls) with
    procBased := 0x02200000, exit := 0x200, entry := 0x200, cr3TargetCount := 4, entryIntInfo := 0x80000B0E
    entryExcErrorCode := 2, ioBitmapA := 0x10000, ioBitmapB := 0x11000, virtualApicPage := 0x12000, tprThreshold := 3
    exitMsrStore := ⟨0x13000, 2⟩, exitMsrLoad := ⟨0x13020, 2⟩, entryMsrLoad := ⟨0x13040, 1⟩ }
  host := { (default : HostState) with
    cr0 := 0x80050033, cr4 := 0x2020, cr3 := 0x1000000, sysenterEsp := 0xFFFF800000010000
    sysenterRip := 0xFFFFFFFF80002000, csSel := 0x10, trSel := 0x40, gsBase := 0xFFFF880000000000
    gdtrBase := 0xFFFF880000001000, idtrBase := 0xFFFFFFFF80003000, trBase := 0xFFFF880000002000
    rip := 0xFFFFFFFF80001000 }
  guest := { (default : GuestState) with
    cr0 := 0x80050033, cr4 := 0x2020, cr3 := 0x2000000, dr7 := 0x400, rflags := 0x2
    gdtr := ⟨0xFFFF880000001000, 0x7F⟩, idtr := ⟨0xFFFFFFFF80003000, 0xFFF⟩
    cs := seg 0x33 0 0xFFFFFFFF 0xA0FB, ss := seg 0x2B 0 0xFFFFFFFF 0xC0F3, ds := seg 0x2B 0 0xFFFFFFFF 0xC0F3
    es := seg 0x2B 0 0xFFFFFFFF 0xC0F3, fs := seg 0 0x00007F0000001000 0xFFFFFFFF 0xC0F3, gs := unusable
    ldtr := unusable, tr := seg 0x40 0xFFFF880000002000 0x67 0x8B }

/-- The baseline `G86`. -/
def g86 : Vmcs :=
  { v32 with guest := { v32.guest with
      rflags := 0x20002, cs := seg 0xF000 0xF0000 0xFFFF 0xF3, ss := seg 0 0 0xFFFF 0xF3, ds := seg 0x40 0x400 0xFFFF 0xF3
      es := seg 0xB800 0xB8000 0xFFFF 0xF3, fs := seg 0 0 0xFFFF 0xF3, gs := seg 0 0 0xFFFF 0xF3 } }

/-- Memory with one byte. -/
def oneByte (a : Nat) (b : Byte) : Memory := { cells := [(a, b)] }

/-- A state in VMX root operation at privilege level 0, outside the two named modes. -/
def start (v : Option Vmcs) : State :=
  { State.reset with cpu := { resetProcessor with rip := 0x1000, ipWidth := .w32, lma := true }, currentVmcs := v
                     mem := oneByte 0x12080 0x40 }

def ctl (v : Vmcs) (f : Controls → Controls) : Vmcs := { v with ctl := f v.ctl }
def host (v : Vmcs) (f : HostState → HostState) : Vmcs := { v with host := f v.host }
def guest (v : Vmcs) (f : GuestState → GuestState) : Vmcs := { v with guest := f v.guest }

/-- Every listed VMCS gets the verdict beside it. -/
def verdicts (check : Vmcs → Bool) (cases : List (Vmcs × Bool)) : Bool := cases.all fun c => check c.1 == c.2

/-! ### Ill-formed parameters are refused, one test per check of `Impl.wf` -/

theorem test_wf_demo : demo.wf = true := by decide +kernel

theorem test_wf_paw : ({ demo with paw := 31 } : Impl).wf = false ∧ ({ demo with paw := 53 } : Impl).wf = false
    ∧ ({ demo with paw := 32 } : Impl).wf = true ∧ ({ demo with paw := 52 } : Impl).wf = true := by decide +kernel

theorem test_wf_law : ({ demo with law := 0 } : Impl).wf = false ∧ ({ demo with law := 65 } : Impl).wf = false := by
  decide +kernel

theorem test_wf_masks : ({ demo with pinMust1 := 2, pinMust0 := 3 } : Impl).wf = false
    ∧ ({ demo with procMust1 := 1, procMust0 := 1 } : Impl).wf = false
    ∧ ({ demo with exitMust1 := 1, exitMust0 := 1 } : Impl).wf = false
    ∧ ({ demo with entryMust1 := 1, entryMust0 := 1 } : Impl).wf = false
    ∧ ({ demo with cr0Must0 := 1 } : Impl).wf = false ∧ ({ demo with cr4Must0 := 0x2000 } : Impl).wf = false := by
  decide +kernel

theorem test_wf_cacheBits : ({ demo with cr0Must1 := 0x20000000 } : Impl).wf = false
    ∧ ({ demo with cr0Must0 := 0x40000000 } : Impl).wf = false := by decide +kernel

theorem test_wf_controls : ({ demo with ctlUseTprShadow := 25 } : Impl).wf = false
    ∧ ({ demo with ctlIa32eModeGuest := 32 } : Impl).wf = false ∧ ({ demo with exitMust1 := 0x200 } : Impl).wf = false
    ∧ ({ demo with procMust0 := 0x200000 } : Impl).wf = false := by decide +kernel

theorem test_wf_errors : ({ demo with errMovss := 4 } : Impl).wf = false
    ∧ ({ demo with errEntryCtrl := 8 } : Impl).wf = false := by decide +kernel

theorem test_wf_types : ({ demo with itypeNmi := 3 } : Impl).wf = false ∧ ({ demo with itypeSwExc := 7 } : Impl).wf = false
    ∧ ({ demo with itypeExtInt := 1 } : Impl).wf = false := by decide +kernel

/-! ### Step 2 against 95_test_vectors.md -/

/-- C1 to C5 (R90, R93). -/
theorem test_reserved_controls :
    verdicts (pinBasedOk { demo with pinMust1 := 0x16, pinMust0 := 0xFFFFFFE0 })
      [(ctl v32 fun c => { c with pinBased := 0x16 }, true), (ctl v32 fun c => { c with pinBased := 0x06 }, false),
        (ctl v32 fun c => { c with pinBased := 0x36 }, false)] = true
    ∧ verdicts (entryControlsOk { demo with entryMust1 := 0x11FF, entryMust0 := 0xFFFFEC00 })
      [(ctl v32 fun c => { c with entry := 0x11FF }, true), (ctl v32 fun c => { c with entry := 0x13FF }, true)] = true := by
  decide +kernel

/-- `V32` with an event to inject. -/
def event (info code len : Word32) : Vmcs :=
  ctl v32 fun c => { c with entryIntInfo := info, entryExcErrorCode := code, entryInsnLen := len }

/-- C6 to C34 (R94 to R100). -/
theorem test_control_vectors : verdicts (controlChecksPass demo (oneByte 0 0))
    [(ctl v32 fun c => { c with cr3TargetCount := 4 }, true), (ctl v32 fun c => { c with cr3TargetCount := 5 }, false),
      (event 0x00000700 0xFFFFFFFF 99, true), (event 0x80000100 0 0, false), (event 0x80000700 0 0, false),
      (event 0x80000202 0 0, true), (event 0x80000203 0 0, false), (event 0x8000031F 0 0, true),
      (event 0x80000320 0 0, false), (event 0x80000B0D 0 0, true), (event 0x8000030D 0 0, false),
      (event 0x80000B06 0 0, false), (event 0x80000B11 0 0, true), (event 0x80000B09 0 0, false),
      (event 0x80000E0D 0 1, false), (event 0x80000020 0 0, true), (event 0x80000820 0 0, false),
      (event 0x80001306 0 0, false), (event 0xC0000306 0 0, false), (event 0x80000B0E 0x7FFF 0, true),
      (event 0x80000B0E 0x8000 0, false), (event 0x80000306 0xFFFFFFFF 0, true), (event 0x80000480 0 2, true),
      (event 0x80000480 0 0, false), (event 0x80000480 0 15, true), (event 0x80000480 0 16, false),
      (event 0x80000603 0 1, true), (event 0x80000501 0 0, false), (event 0x8000030E 0 0, false)] = true := by
  decide +kernel

/-- A1 to A7 and A9 to A15 (R101 to R109). -/
theorem test_address_vectors : verdicts (controlChecksPass demo (oneByte 0x12080 0x40))
    [(v64, true), (ctl v64 fun c => { c with ioBitmapA := 0x10800 }, false),
      (ctl v64 fun c => { c with ioBitmapB := 0x1000000000 }, false),
      (ctl v64 fun c => { c with procBased := 0x200000, ioBitmapA := 0xFFFFFFFFFFFFFFFF }, true),
      (ctl v64 fun c => { c with ioBitmapA := 0x1000, ioBitmapB := 0x1000 }, true),
      (ctl v64 fun c => { c with virtualApicPage := 0x12080 }, false),
      (ctl v64 fun c => { c with virtualApicPage := 0x8000000000 }, false),
      (ctl v64 fun c => { c with exitMsrStore := ⟨0xFFFFFFFFFFFFFFFF, 0⟩ }, true),
      (ctl v64 fun c => { c with exitMsrStore := ⟨0x13008, 2⟩ }, false),
      (ctl v64 fun c => { c with exitMsrLoad := ⟨0xFFFFFFFF0, 1⟩ }, true),
      (ctl v64 fun c => { c with exitMsrLoad := ⟨0xFFFFFFFF0, 2⟩ }, false),
      (ctl v64 fun c => { c with entryMsrLoad := ⟨0x1000, 0xFFFFFFFF⟩ }, false),
      (ctl v64 fun c => { c with entryMsrLoad := ⟨0x1000000000, 1⟩ }, false),
      (ctl v64 fun c => { c with entryMsrLoad := ⟨0xFFFFFFFFFFFFFFF0, 2⟩ }, false)] = true := by decide +kernel

/-- A8 and A16 to A21 (R111). -/
theorem test_tpr_vectors :
    controlChecksPass { demo with paw := 40 } (oneByte 0x8000000080 0x40)
        (ctl v64 fun c => { c with virtualApicPage := 0x8000000000 }) = true
      ∧ controlChecksPass demo (oneByte 0x12080 0x30) v64 = true
      ∧ controlChecksPass demo (oneByte 0x12080 0x2F) v64 = false
      ∧ controlChecksPass demo (oneByte 0x12080 0x00) (ctl v64 fun c => { c with tprThreshold := 0xF0 }) = true
      ∧ controlChecksPass demo (oneByte 0x12080 0xF0) (ctl v64 fun c => { c with tprThreshold := 0xF }) = true
      ∧ controlChecksPass demo (oneByte 0x12080 0xEF) (ctl v64 fun c => { c with tprThreshold := 0xF }) = false
      ∧ controlChecksPass demo (oneByte 0 0) (ctl v64 fun c => { c with procBased := 0x2000000, tprThreshold := 0xF }) = true
      := by decide +kernel

/-- H1 to H10 and H12 to H24 (R121 to R128). -/
theorem test_host_vectors : verdicts (hostChecksPass demo)
    [(v32, true), (v64, true), (host v32 fun h => { h with cr0 := 0x80000021 }, true),
      (host v32 fun h => { h with cr0 := 0xE0000021 }, true), (host v32 fun h => { h with cr0 := 0x80000001 }, false),
      (host v32 fun h => { h with cr0 := 0x00000021 }, false), (host v32 fun h => { h with cr0 := 0x80000020 }, false),
      (host v32 fun h => { h with cr4 := 0x2000 }, true), (host v32 fun h => { h with cr4 := 0x20 }, false),
      (host v32 fun h => { h with cr3 := 0x0000000FFFFFF018 }, true),
      (host v32 fun h => { h with cr3 := 0x0000001000000000 }, false),
      (host v32 fun h => { h with cr3 := 0x0010000000000000 }, false),
      (host v32 fun h => { h with sysenterEsp := 0x00007FFFFFFFFFFF }, true),
      (host v32 fun h => { h with sysenterEsp := 0x0000800000000000 }, false),
      (host v32 fun h => { h with sysenterRip := 0xFFFF800000000000 }, true),
      (host v32 fun h => { h with sysenterRip := 0xFFFF7FFFFFFFFFFF }, false),
      (host v32 fun h => { h with csSel := 0x13 }, false), (host v32 fun h => { h with gsSel := 0x4 }, false),
      (host v32 fun h => { h with csSel := 0 }, false), (host v32 fun h => { h with trSel := 0 }, false),
      (host v32 fun h => { h with ssSel := 0 }, false), (host v32 fun h => { h with dsSel := 0, esSel := 0 }, true),
      (host v32 fun h => { h with gdtrBase := 0x8000000000000000 }, false),
      (host v32 fun h => { h with trBase := 0xFFFFFFFFFFFFFFFF }, true),
      (host v32 fun h => { h with fsBase := 0x0001000000000000 }, false)] = true := by decide +kernel

/-- H11 (R123). -/
theorem test_host_cr3_wide :
    hostCr3Ok { demo with paw := 52 } (host v32 fun h => { h with cr3 := 0x000FFFFFFFFFF000 }) = true := by decide +kernel

/-- `V32` with the two controls of address-space size, host CR4 and host RIP. -/
def sizes (h g : Bool) (cr4 rip : Word64) : Vmcs :=
  host (ctl v32 fun c => { c with exit := if h then 0x200 else 0, entry := if g then 0x200 else 0 }) fun x =>
    { x with cr4 := cr4, rip := rip }

/-- S1 to S11 (R131 to R137). -/
theorem test_address_space_vectors :
    verdicts (addrSpaceChecksPass demo false)
      [(sizes false false 0x2000 0xC0003000, true), (sizes false true 0x2020 0xC0003000, false),
        (sizes true true 0x2020 0xFFFFFFFF80001000, false), (sizes true false 0x2020 0x1000, true)] = true
    ∧ verdicts (addrSpaceChecksPass demo true)
      [(sizes false true 0x2020 0xC0003000, false), (sizes true true 0x2020 0xFFFFFFFF80001000, true),
        (sizes true false 0x2020 0xFFFFFFFF80001000, true), (sizes true false 0x2000 0xFFFFFFFF80001000, false),
        (sizes true false 0x2020 0x0000800000000000, false), (sizes false false 0x2000 0x100000000, false),
        (sizes false false 0x2000 0xFFFFFFF0, true)] = true := by decide +kernel

/-- S12 (R70, R138): both numbers may be reported, whatever the host check says. -/
theorem test_address_space_errors :
    step2Errors demo (start none) (host (sizes false false 0x2000 0x100000000) fun h => { h with csSel := 0x13 }) = [7, 8]
      ∧ step2Errors demo (start none) (sizes false false 0x2000 0x100000000) = [7, 8] := by decide +kernel

/-! ### Step 3 against 95_test_vectors.md -/

/-- R1 to R17 (R141 to R149). -/
theorem test_guest_register_vectors : verdicts (guestRegisterChecksPass demo)
    [(v32, true), (v64, true), (guest v32 fun g => { g with cr0 := 0x80000021 }, true),
      (guest v32 fun g => { g with cr0 := 0x11 }, false), (guest v32 fun g => { g with cr0 := 0x60000010 }, false),
      (guest v32 fun g => { g with cr4 := 0 }, false), (guest v64 fun g => { g with cr4 := 0x2000 }, false),
      (guest v32 fun g => { g with cr3 := 0x0000001000000000 }, false),
      (guest v32 fun g => { g with cr3 := 0x0000000FFFFFFFFF }, true), (guest v32 fun g => { g with dr7 := 0xFFFFFFFF }, true),
      (guest v32 fun g => { g with dr7 := 0x100000400 }, false), (guest v32 fun g => { g with debugctl := 1 }, true),
      (guest v32 fun g => { g with debugctl := 4 }, false),
      (guest v32 fun g => { g with sysenterEsp := 0x0000800000000000 }, false),
      (guest v32 fun g => { g with gdtr := ⟨0x0000800000000000, 0⟩ }, false),
      (guest v32 fun g => { g with idtr := ⟨0xFFFFFFFFFFFFF000, 0xFFFF⟩ }, true),
      (guest v32 fun g => { g with gdtr := ⟨0, 0x10000⟩ }, false)] = true := by decide +kernel

/-- Replace parts of a segment register. -/
def ar (r : Segment) (x : Word32) : Segment := { r with ar := x }
def base (r : Segment) (x : Word64) : Segment := { r with base := x }
def sel (r : Segment) (x : Word16) : Segment := { r with sel := x }
def limit (r : Segment) (x : Word32) : Segment := { r with limit := x }

/-- G1 to G26 (R163 to R189). -/
theorem test_guest_segment_vectors_low : verdicts (guestSegmentRulesOk demo)
    [(v32, true), (v64, true), (guest v32 fun g => { g with tr := sel g.tr 0x1C }, false),
      (guest v32 fun g => { g with ldtr := sel g.ldtr 0xFFFF }, true),
      (guest v32 fun g => { g with ldtr := seg 0x24 0 0x27 0x82 }, false),
      (guest v32 fun g => { g with ldtr := seg 0x20 0 0x27 0x82 }, true),
      (guest v32 fun g => { g with ss := sel g.ss 0x13 }, false),
      (guest v32 fun g => { g with tr := base g.tr 0x0000800000000000 }, false),
      (guest v32 fun g => { g with cs := base g.cs 0x100000000 }, false),
      (guest v64 fun g => { g with cs := base g.cs 0x100000000 }, false),
      (guest v32 fun g => { g with ds := base g.ds 0x100000000 }, false),
      (guest v32 fun g => { g with ds := seg 0x10 0xFFFFFFFFFFFFFFFF 0xFFFFFFFF 0x10000 }, true),
      (guest v32 fun g => { g with gs := base g.gs 0x0000800000000000 }, false),
      (guest v32 fun g => { g with tr := ar g.tr 0x89 }, false), (guest v32 fun g => { g with tr := ar g.tr 0x83 }, true),
      (guest v64 fun g => { g with tr := ar g.tr 0x83 }, false), (guest v32 fun g => { g with cs := ar g.cs 0xC09A }, false),
      (guest v32 fun g => { g with cs := ar g.cs 0xC093 }, false), (guest v32 fun g => { g with cs := ar g.cs 0xC09F }, true),
      (guest v32 fun g => { g with ss := ar g.ss 0xC097 }, true), (guest v32 fun g => { g with ss := ar g.ss 0xC091 }, false),
      (guest v32 fun g => { g with ss := unusable }, true), (guest v32 fun g => { g with ds := ar g.ds 0xC092 }, false),
      (guest v32 fun g => { g with ds := ar g.ds 0xC099 }, false), (guest v32 fun g => { g with ds := ar g.ds 0xC09B }, true),
      (guest v32 fun g => { g with tr := ar g.tr 0x9B }, false), (guest v32 fun g => { g with cs := ar g.cs 0xC08B }, false),
      (guest v32 fun g => { g with es := ar g.es 0xC083 }, false)] = true := by decide +kernel

/-- G27 to G52 (R190 to R208). -/
theorem test_guest_segment_vectors_high : verdicts (guestSegmentRulesOk demo)
    [(guest v32 fun g => { g with cs := ar g.cs 0xC0FB }, false),
      (guest v32 fun g => { g with cs := ar (sel g.cs 0x0B) 0xC0FB, ss := ar (sel g.ss 0x13) 0xC0F3, ds := ar g.ds 0xC0F3
                                   es := ar g.es 0xC0F3 }, true),
      (guest v32 fun g => { g with cs := ar g.cs 0xC0FF }, false), (guest v32 fun g => { g with ss := ar g.ss 0xC0F3 }, false),
      (guest v32 fun g => { g with ds := sel g.ds 0x13 }, false),
      (guest v32 fun g => { g with ds := ar (sel g.ds 0x13) 0xC09F }, true),
      (guest v32 fun g => { g with cs := ar g.cs 0xC01B }, false), (guest v32 fun g => { g with tr := ar g.tr 0x0B }, false),
      (guest v32 fun g => { g with ds := ar g.ds 0xC013 }, false), (guest v32 fun g => { g with cs := ar g.cs 0xC19B }, false),
      (guest v32 fun g => { g with ds := ar g.ds 0xC893 }, false), (guest v32 fun g => { g with ds := ar g.ds 0x10F00 }, true),
      (guest v64 fun g => { g with cs := ar g.cs 0xE0FB }, false), (guest v64 fun g => { g with cs := ar g.cs 0xC0FB }, true),
      (guest v32 fun g => { g with cs := ar g.cs 0xE09B }, true), (guest v32 fun g => { g with cs := ar g.cs 0x409B }, false),
      (guest v32 fun g => { g with cs := ar (limit g.cs 0xFFFFF) 0x409B }, true),
      (guest v32 fun g => { g with cs := limit g.cs 0xFFFFF }, true),
      (guest v32 fun g => { g with cs := limit g.cs 0xFFFFE }, false),
      (guest v32 fun g => { g with cs := limit g.cs 0x100000 }, false),
      (guest v32 fun g => { g with cs := ar (limit g.cs 0x100000) 0x409B }, false),
      (guest v32 fun g => { g with tr := ar g.tr 0x808B }, false),
      (guest v32 fun g => { g with ds := ar (limit g.ds 0x100FFF) 0x4093 }, false),
      (guest v32 fun g => { g with tr := ar g.tr 0x1008B }, false), (guest v32 fun g => { g with cs := ar g.cs 0x1C09B }, true),
      (guest v32 fun g => { g with cs := ar g.cs 0x2C09B }, false),
      (guest v32 fun g => { g with tr := ar g.tr 0x8000008B }, false)] = true := by decide +kernel

/-- G54 to G60 and G62 to G64 (R169, R174, R180, R182, R193, R195, R200, R204, R207, R211). -/
theorem test_v86_vectors : verdicts (guestSegmentRulesOk demo)
    [(g86, true), (guest g86 fun g => { g with cs := limit g.cs 0xFFFFF }, false),
      (guest g86 fun g => { g with ds := ar g.ds 0x93 }, false), (guest g86 fun g => { g with ss := ar g.ss 0x93 }, true),
      (guest g86 fun g => { g with cs := ar g.cs 0x40F3 }, false), (guest g86 fun g => { g with es := ar g.es 0x80F3 }, false),
      (guest g86 fun g => { g with fs := ar g.fs 0x10000 }, false),
      (guest g86 fun g => { g with cs := base g.cs 0xF00 }, false),
      (guest g86 fun g => { g with tr := ar g.tr 0x808B }, false), (guest g86 fun g => { g with cs := ar g.cs 0xFB }, false),
      (guest g86 fun g => { g with ss := ar g.ss 0xF7 }, false)] = true := by decide +kernel

/-- G61 with the source's literal shift right (90_conflicts.md C4). -/
theorem test_v86_literal_base :
    csBaseV86Ok { demo with v86Base := fun x => (x >>> 4).setWidth 64 } (guest g86 fun g => { g with cs := base g.cs 0xF00 })
      = true := by decide +kernel

/-- G53 (R209). -/
def ragged : Vmcs := guest v32 fun g => { g with ds := ar g.ds 0x2C093 }

theorem test_doubtful_vectors :
    guestSegmentChecksPass { demo with checkRsvd3117Other := .yes } (start none) ragged = false
      ∧ guestSegmentChecksPass { demo with checkRsvd3117Other := .no } (start none) ragged = true
      ∧ guestSegmentChecksPass demo (start none) ragged = false
      ∧ guestSegmentChecksPass { demo with rsvd3117Verdict := fun _ => true } (start none) ragged = true := by decide +kernel

/-! ### One VM entry, against 95_test_vectors.md 3.1 and section 4 -/

/-- `V32` in launch state launched. -/
def launched : Vmcs := { v32 with launchState := .launched }

/-- B1 to B13 (R80 to R89). -/
theorem test_basic_vectors :
    entryOutcome demo .launch { start none with cpu := { (start none).cpu with mode := .virtual8086, cpl := 3 } }
        = .invalidOpcode
      ∧ entryOutcome demo .launch { start none with cpu := { (start none).cpu with mode := .compatibility, cpl := 3 } }
        = .invalidOpcode
      ∧ entryOutcome demo .launch { start none with cpu := { (start none).cpu with cpl := 3 } } = .generalProtection
      ∧ entryOutcome demo .resume { start (some v32) with cpu := { (start none).cpu with cpl := 1 } } = .generalProtection
      ∧ entryOutcome demo .launch { start none with movssBlocking := true } = .vmFailInvalid
      ∧ entryOutcome demo .resume (start none) = .vmFailInvalid
      ∧ entryOutcome demo .launch { start (some launched) with movssBlocking := true } = .vmFailValid 26
      ∧ entryOutcome demo .launch (start (some launched)) = .vmFailValid 4
      ∧ entryOutcome demo .resume (start (some v32)) = .vmFailValid 5
      ∧ entryOutcome demo .launch (start (some v32)) = .checksPassed
      ∧ entryOutcome demo .resume (start (some launched)) = .checksPassed
      ∧ entryOutcome demo .resume { start (some v32) with movssBlocking := true } = .vmFailValid 26 := by decide +kernel

/-- The state a result goes on in, if it does. -/
def nextState : Result → Option State
  | .next t => some t
  | _ => none

/-- Program 2, first instruction: ZF 1, error number 4, `pc` 3 on, launch state kept. -/
theorem test_vmlaunch_wrong_launch_state :
    (nextState (vmEntry demo .launch (start (some launched)))).map
        (fun t => (t.cpu.rip, bit t.cpu.rflags 6, bit t.cpu.rflags 0, t.errorField, t.launchState))
      = some (0x1003, true, false, some 4, some .launched) := by decide +kernel

/-- Program 4, run a: the entry passes and goes on; the TPR byte decides (run b). -/
theorem test_vmlaunch_enters_guest :
    (nextState (vmEntry demo .launch (start (some v64)))).map (fun t => (t.vmxMode, t.launchState, t.errorField))
        = some (.nonRoot, some .launched, some 0)
      ∧ entryOutcome demo .launch { start (some v64) with mem := oneByte 0x12080 0x20 } = .vmFailValid 7 := by
  decide +kernel

/-- Program 1, second instruction: CF 1, `pc` 3 on, still no VMCS. -/
theorem test_vmresume_no_vmcs :
    (nextState (vmEntry demo .resume (start none))).map (fun t => (t.cpu.rip, bit t.cpu.rflags 0, t.currentVmcs))
      = some (0x1003, true, none) := by decide +kernel

/-- Program 6: a failed guest check fails like a VM exit, with no error number. -/
theorem test_vmresume_guest_check_fails :
    (nextState (vmEntry demo .resume (start (some (guest launched fun g => { g with cr0 := 0x11 }))))).map
        (fun t => (t.vmxMode, t.launchState, t.errorField)) = some (.root, some .launched, some 0) := by decide +kernel

end Sys2Proof.Tests
end

