-- ==== Sys2Proof/Tests/Witnesses.lean ====
section
/-! SUPPORT. For every statement that has hypotheses, a concrete state and operands that meet all of them together. `opened` is
a VMCS that passes every surviving check of the machine's implementation, whatever its opaque constants are. -/

namespace Sys2Proof.Tests

open Sys2Proof Sys2Proof.Machine

/- One theorem after another: `decide +kernel` waits for every theorem before it, each wait holding a thread and its stack. -/
set_option Elab.async false

/-! ### A VMCS that the machine's implementation accepts -/

/-- A host-state area with every address 0. -/
def plainHost (cs : Word16) : HostState where
  cr0 := 0x80000021
  cr3 := 0
  cr4 := 0x2000
  sysenterEsp := 0
  sysenterRip := 0
  csSel := cs
  ssSel := 8
  dsSel := 0
  esSel := 0
  fsSel := 0
  gsSel := 0
  trSel := 8
  fsBase := 0
  gsBase := 0
  gdtrBase := 0
  idtrBase := 0
  trBase := 0
  rip := 0

/-- A guest-state area like that of `V32`, with every base 0. -/
def plainGuest (cr0 : Word64) : GuestState where
  cr0 := cr0
  cr3 := 0
  cr4 := 0x2000
  dr7 := 0x400
  debugctl := 0
  sysenterEsp := 0
  sysenterRip := 0
  rip := 0x100000
  rflags := 0x2
  cs := seg 0x08 0 0xFFFFFFFF 0xC09B
  ss := seg 0x10 0 0xFFFFFFFF 0xC093
  ds := seg 0x10 0 0xFFFFFFFF 0xC093
  es := seg 0x10 0 0xFFFFFFFF 0xC093
  fs := unusable
  gs := unusable
  tr := seg 0x18 0 0x67 0x8B
  ldtr := unusable
  gdtr := ⟨0, 0xFFFF⟩
  idtr := ⟨0, 0x7FF⟩

/-- Control words that hold the reserved bits that must be 1 and nothing else; the CR3-target count, the host's CS selector
and the guest's CR0 decide which class of checks passes: 0, 8 and 80000021H pass all. -/
def opened (l : LaunchState) (count : Word32) (cs : Word16) (cr0 : Word64) : Vmcs where
  launchState := l
  vmInstructionError := 0
  exitInfo := []
  ctl := { (default : Controls) with
    pinBased := impl.pinMust1, procBased := impl.procMust1, exit := impl.exitMust1, entry := impl.entryMust1
    cr3TargetCount := count }
  host := plainHost cs
  guest := plainGuest cr0

/-- The state of a VM entry by instruction `i` on such a VMCS. -/
def ready (i : Instr) (count : Word32) (cs : Word16) (cr0 : Word64) : State :=
  start (some (opened (kindOf i).needs count cs cr0))

theorem hz (a : Word64) (h : a = 0) : canonical impl a = true := h ▸ canonical_zero impl

variable (l : LaunchState) (n : Word32) (cs : Word16) (cr0 : Word64)

theorem named_off :
    activateIoBitmaps impl (opened l n cs cr0) = false ∧ useTprShadow impl (opened l n cs cr0) = false
      ∧ hostAddrSpaceSize impl (opened l n cs cr0) = false ∧ ia32eModeGuest impl (opened l n cs cr0) = false :=
  ⟨reservedOnes_named _ _ procNamed_ioBitmaps, reservedOnes_named _ _ procNamed_tprShadow,
    reservedOnes_named _ _ exitNamed_hostSize, reservedOnes_named _ _ entryNamed_ia32e⟩

theorem opened_ordinary (m : Memory) : readsDeviceMemory impl m (opened l n cs cr0) = false := by
  simp [readsDeviceMemory, readsVirtualApicPage, named_off]

theorem opened_controls (m : Memory) : controlChecksPass impl m (opened l n cs cr0) = decide (n.toNat ≤ 4) := by
  have h1 : pinBasedOk impl (opened l n cs cr0) = true := reservedOk_ones _ _ _
  have h2 : procBasedOk impl (opened l n cs cr0) = true := reservedOk_ones _ _ _
  have h3 : exitControlsOk impl (opened l n cs cr0) = true := reservedOk_ones _ _ _
  have h4 : entryControlsOk impl (opened l n cs cr0) = true := reservedOk_ones _ _ _
  have h5 : eventInjectionOk impl (opened l n cs cr0) = true := by
    have : infoValid (opened l n cs cr0).ctl.entryIntInfo = false := by show infoValid 0 = false; decide
    simp [eventInjectionOk, this]
  have h6 : cr3TargetCountOk impl (opened l n cs cr0) = decide (n.toNat ≤ 4) := rfl
  have h7 : msrAreaStartOk impl ⟨0, 0⟩ = true ∧ msrAreaEndOk impl ⟨0, 0⟩ = true := ⟨rfl, rfl⟩
  have h8 : exitMsrStoreStartOk impl (opened l n cs cr0) = true ∧ exitMsrStoreEndOk impl (opened l n cs cr0) = true
      ∧ exitMsrLoadStartOk impl (opened l n cs cr0) = true ∧ exitMsrLoadEndOk impl (opened l n cs cr0) = true
      ∧ entryMsrLoadStartOk impl (opened l n cs cr0) = true ∧ entryMsrLoadEndOk impl (opened l n cs cr0) = true :=
    ⟨h7.1, h7.2, h7.1, h7.2, h7.1, h7.2⟩
  simp [controlChecksPass, h1, h2, h3, h4, h5, h6, h8, ioBitmapsOk, virtualApicPageOk, tprThresholdOk,
    readsVirtualApicPage, named_off]

theorem opened_host : hostChecksPass impl (opened l n cs cr0) = (slice cs 2 0 == 0 && cs != 0) := by
  have h1 : hostCr0Ok impl (opened l n cs cr0) = true := by show reservedOk (0x80000021 : Word64) 0 0x80000021 = true; decide
  have h2 : hostCr4Ok impl (opened l n cs cr0) = true := by show reservedOk (0x2000 : Word64) 0 0x2000 = true; decide
  have h3 : hostCr3Ok impl (opened l n cs cr0) = true := by show cr3Ok impl 0 = true; simp [cr3Ok, slice, bit]
  have h4 : hostSysenterOk impl (opened l n cs cr0) = true := by
    show (canonical impl 0 && canonical impl 0) = true; rw [canonical_zero]; rfl
  have h5 : hostBasesOk impl (opened l n cs cr0) = true := by
    show ([0, 0, 0, 0, 0] : List Word64).all (fun b => canonical impl b) = true; simp [hz]
  have h6 : hostSelectorBitsOk (opened l n cs cr0) = (slice cs 2 0 == 0) := by
    simp [hostSelectorBitsOk, hostSelectors, opened, plainHost]; rintro -; decide
  have h7 : hostCsTrNotNull (opened l n cs cr0) = (cs != 0) := Bool.and_true _
  have h8 : hostSsOk impl (opened l n cs cr0) = true := Bool.or_true _
  simp [hostChecksPass, h1, h2, h3, h4, h5, h6, h7, h8]

theorem opened_addrSpace (lma : Bool) : addrSpaceChecksPass impl lma (opened l n cs cr0) = true := by
  have h : hostRip32Ok impl (opened l n cs cr0) = true := by
    have : slice (opened l n cs cr0).host.rip 63 32 = 0 := by show slice (0 : Word64) 63 32 = 0; decide
    simp [hostRip32Ok, this]
  simp [addrSpaceChecksPass, h, guestModeFitsLma, guestModeFitsHost, hostPaeOk, hostRip64Ok, named_off]

theorem opened_guestRegisters :
    guestRegisterChecksPass impl (opened l n cs cr0) = reservedOk (0x80000021 : Word64) 0 cr0 := by
  have h2 : guestCr4Ok impl (opened l n cs cr0) = true := by show reservedOk (0x2000 : Word64) 0 0x2000 = true; decide
  have h3 : guestCr3Ok impl (opened l n cs cr0) = true := by show cr3Ok impl 0 = true; simp [cr3Ok, slice, bit]
  have h4 : guestDr7Ok (opened l n cs cr0) = true := by show (slice (0x400 : Word64) 63 32 == 0) = true; decide
  have h5 : guestDebugctlOk impl (opened l n cs cr0) = true := by
    show ((0 : Word64) &&& impl.debugctlRsvd == 0) = true; simp
  have h6 : guestSysenterOk impl (opened l n cs cr0) = true := by
    show (canonical impl 0 && canonical impl 0) = true; rw [canonical_zero]; rfl
  have h7 : guestTableBasesOk impl (opened l n cs cr0) = true := by
    show (canonical impl 0 && canonical impl 0) = true; rw [canonical_zero]; rfl
  have h8 : guestTableLimitsOk (opened l n cs cr0) = true := by
    show (slice (0xFFFF : Word32) 31 16 == 0 && slice (0x7FF : Word32) 31 16 == 0) = true; decide
  have h1 : guestCr0Ok impl (opened l n cs cr0) = reservedOk (0x80000021 : Word64) 0 cr0 := rfl
  have h9 : guestPaeOk impl (opened l n cs cr0) = true := by simp [guestPaeOk, named_off]
  simp [guestRegisterChecksPass, h1, h2, h3, h4, h5, h6, h7, h8, h9]

/-- Step 3's segment checks that do not depend on the implementation. -/
def plainSegments (v : Vmcs) : Bool :=
  guestSegmentRightsOk v && optionalReservedHighZero v && trSelectorOk v && ldtrSelectorOk v && ssSelectorOk v
    && csBaseHighOk v && flatBasesHighOk v && limitsV86Ok v && ldtrTypeOk v && csAccessedOk v && csCodeOk v && csTypeV86Ok v
    && ssTypeOk v && ssTypeV86Ok v && dataAccessedOk v && dataReadableOk v && dataTypeV86Ok v && stackAndDataDbOk v
    && csTrGranularitySmallOk v && csTrGranularityLargeOk v && optionalGranularitySmallOk v && optionalGranularityLargeOk v
    && trUsableOk v && usableV86Ok v && csTrReservedHighOk v && !v86Guest v && !usable v.guest.ldtr

theorem plain_segments : plainSegments (opened l n cs cr0) = true := by
  show plainSegments (opened .clear 0 0 0) = true; decide +kernel

theorem opened_guestSegments (s : State) : guestSegmentChecksPass impl s (opened l n cs cr0) = true := by
  have h := plain_segments l n cs cr0
  simp only [plainSegments, Bool.and_eq_true, Bool.not_eq_true'] at h
  have h1 : trBaseOk impl (opened l n cs cr0) = true := canonical_zero impl
  have h2 : ldtrBaseOk impl (opened l n cs cr0) = true := by
    simp [ldtrBaseOk, h]
  have h3 : csBaseV86Ok impl (opened l n cs cr0) = true := by simp [csBaseV86Ok, h]
  have h4 : flatBasesV86Ok impl (opened l n cs cr0) = true := by simp [flatBasesV86Ok, h]
  have h5 : fsGsBasesV86Ok impl (opened l n cs cr0) = true := by simp [fsGsBasesV86Ok, h]
  have h6 : fsGsBasesOk impl (opened l n cs cr0) = true := by
    show (canonical impl 0 && canonical impl 0) = true; rw [canonical_zero]; rfl
  have ht : arType (opened l n cs cr0).guest.tr = 11 := by show arType (seg 0x18 0 0x67 0x8B) = 11; decide
  have h7 : trTypeLegacyOk impl (opened l n cs cr0) = true := by simp [trTypeLegacyOk, ht]
  have h8 : trTypeIa32eOk impl (opened l n cs cr0) = true := by simp [trTypeIa32eOk, ht]
  have h9 : csDbOk impl (opened l n cs cr0) = true := by simp [csDbOk, h, named_off]
  simp [guestSegmentChecksPass, guestSegmentRulesOk, guestSegmentFieldsOk, guestSegmentTypesOk, guestSegmentSizesOk,
    optionalReservedHighOk, h, h1, h2, h3, h4, h5, h6, h7, h8, h9]

/-! ### Decoding and stepping -/

/-- The reset state with `VMLAUNCH` placed. -/
def first : State := State.reset.withFetchWord 24 0x0F01C2

/-- An instruction placed at reset runs as the first instruction and gives a next state (there is no current VMCS). -/
theorem test_first_step : ∃ t, step first = .next t ∧ t.cpu.rip = 0xFFF3 ∧ t.currentVmcs = none := ⟨_, rfl, rfl, rfl⟩

theorem witness_PrefixedFormsAreRefused :
    ([0x66, 0xF3] : List Byte) ≠ [] ∧ ∀ b ∈ ([0x66, 0xF3] : List Byte), isPrefixByte b = true := by decide

theorem witness_StepRunsTheDecodedInstruction :
    decode (fetch first) = .ok (.vmlaunch, []) ∧ decode (fetch State.reset) = .error .tooFewBytes := by decide +kernel

theorem witness_EveryStepKeepsGood : first.Good ∧ ∃ t, step first = .next t :=
  ⟨⟨List.Pairwise.nil, by decide +kernel, fun c hc => by cases hc⟩, _, rfl⟩

theorem witness_CacheBitsNeverChange : ∃ t, step first = .next t := ⟨_, rfl⟩

theorem witness_SuccessfulStepsArePrivileged : ∃ t, step first = .next t := ⟨_, rfl⟩

theorem witness_EveryStepDrawsAnew : ∃ t : State, core.run 1 first = .next t := ⟨_, rfl⟩

theorem witness_NonRootGivesNoStep : (first.setVmxMode .nonRoot).vmxMode = .nonRoot := rfl

theorem witness_CanonicalMeansUpperBitsEqual : Impl.lawOk { demo with law := 1 } = true
    ∧ Impl.lawOk { demo with law := 64 } = true := by decide

/-! ### Step 1 -/

/-- The state of a VM entry with the current mode, privilege and RIP replaced. -/
def entered (v : Option Vmcs) (mode : Mode) (cpl : BitVec 2) (w : IpWidth) (rip : Word64) : State :=
  { start v with cpu := { (start v).cpu with mode := mode, cpl := cpl, ipWidth := w, rip := rip } }

theorem witness_WrongModeRaisesInvalidOpcode :
    (entered none .virtual8086 3 .w16 0).vmxMode = .root ∧ (entered none .virtual8086 3 .w16 0).cpu.mode = .virtual8086
      ∧ (entered none .compatibility 0 .w32 0).cpu.mode = .compatibility := ⟨rfl, rfl, rfl⟩

theorem witness_NonzeroCplRaisesGeneralProtection :
    (entered none .other 1 .w32 0).vmxMode = .root ∧ (entered none .other 1 .w32 0).cpu.mode = .other
      ∧ (entered none .other 1 .w32 0).cpu.cpl ≠ 0 := ⟨rfl, rfl, by decide⟩

theorem witness_FaultsReportTheInstruction :
    (∃ f, exec .vmlaunch (entered none .compatibility 0 .w32 0) = .fault f)
      ∧ ∃ f, exec .vmresume (entered none .other 1 .w32 0) = .fault f := ⟨⟨_, rfl⟩, _, rfl⟩

/-- All ones is canonical whatever the width. -/
theorem canonical_ones : canonical impl (BitVec.allOnes 64) = true := by
  have h := impl_law_lower
  have e : (BitVec.allOnes impl.law).signExtend 64 = BitVec.allOnes 64 := by
    ext k hk
    simp only [BitVec.getElem_signExtend, BitVec.msb_allOnes h, BitVec.getElem_allOnes]
    split <;> rfl
  have e2 : (BitVec.allOnes 64).setWidth impl.law = BitVec.allOnes impl.law := by
    have := impl_law_upper
    ext k hk
    rw [BitVec.getElem_setWidth, BitVec.getLsbD_allOnes, BitVec.getElem_allOnes, decide_eq_true (by omega)]
  simp only [canonical, e2, e, beq_self_eq_true]

/-- The last RIP in range and the first out of range, in each width of the instruction pointer. -/
theorem witness_NextInRange_boundaries :
    (entered none .other 0 .w16 0xFFFC).NextInRange ∧ ¬ (entered none .other 0 .w16 0xFFFD).NextInRange
      ∧ (entered none .other 0 .w32 0xFFFFFFFC).NextInRange ∧ ¬ (entered none .other 0 .w32 0xFFFFFFFD).NextInRange
      ∧ (entered none .other 0 .w64 0xFFFFFFFFFFFFFFFC).NextInRange
      ∧ ¬ (entered none .other 0 .w64 0xFFFFFFFFFFFFFFFD).NextInRange := by
  refine ⟨?_, ?_, ?_, ?_, ⟨?_, canonical_ones⟩, fun h => ?_⟩
  · show 0xFFFC + 3 < 2 ^ 16; decide
  · show ¬ 0xFFFD + 3 < 2 ^ 16; decide
  · show 0xFFFFFFFC + 3 < 2 ^ 32; decide
  · show ¬ 0xFFFFFFFD + 3 < 2 ^ 32; decide
  · show 0xFFFFFFFFFFFFFFFC + 3 < 2 ^ 64; decide
  · have : 0xFFFFFFFFFFFFFFFD + 3 < 2 ^ 64 := h.1
    omega

theorem witness_NoCurrentVmcsFailsInvalid :
    let s := entered none .other 0 .w16 0xFFFC
    s.vmxMode = .root ∧ s.cpu.mode = .other ∧ s.cpu.cpl = 0 ∧ s.currentVmcs = none ∧ s.NextInRange :=
  ⟨rfl, rfl, rfl, rfl, witness_NextInRange_boundaries.1⟩

/-- Any state of these tests passes control to the next instruction within range. -/
theorem ready_range (v : Option Vmcs) : (start v).NextInRange := by show 0x1000 + 3 < 2 ^ 32; decide

theorem witness_MovSsBlockingFailsValid :
    let s := (start (some v32)).setMovss true
    s.vmxMode = .root ∧ s.cpu.mode = .other ∧ s.cpu.cpl = 0 ∧ s.currentVmcs = some v32 ∧ s.movssBlocking = true
      ∧ s.NextInRange := ⟨rfl, rfl, rfl, rfl, rfl, ready_range (some v32)⟩

theorem witness_LaunchOfLaunchedVmcsFails :
    let s := start (some launched)
    s.vmxMode = .root ∧ s.cpu.mode = .other ∧ s.cpu.cpl = 0 ∧ s.currentVmcs = some launched ∧ s.movssBlocking = false
      ∧ launched.launchState ≠ .clear ∧ s.NextInRange :=
  ⟨rfl, rfl, rfl, rfl, rfl, by decide, ready_range _⟩

theorem witness_ResumeOfClearVmcsFails :
    let s := start (some v32)
    s.vmxMode = .root ∧ s.cpu.mode = .other ∧ s.cpu.cpl = 0 ∧ s.currentVmcs = some v32 ∧ s.movssBlocking = false
      ∧ v32.launchState ≠ .launched ∧ s.NextInRange :=
  ⟨rfl, rfl, rfl, rfl, rfl, by decide, ready_range _⟩

theorem witness_VmFailuresChangeNothingElse :
    (∃ t, exec .vmlaunch (start none) = .next t) ∧ entryOutcome impl .launch (start none) = .vmFailInvalid
      ∧ (∃ t, exec .vmresume (start (some v32)) = .next t)
      ∧ entryOutcome impl .resume (start (some v32)) = .vmFailValid impl.errResumeNotLaunched
      ∧ (start (some v32)).currentVmcs = some v32 := ⟨⟨_, rfl⟩, rfl, ⟨_, rfl⟩, rfl, rfl⟩

theorem witness_Step1PassesExactlyWhen :
    (start (some v32)).vmxMode = .root ∧ (start (some v32)).PassesStep1 .launch v32
      ∧ (start (some launched)).PassesStep1 .resume launched :=
  ⟨rfl, ⟨rfl, rfl, rfl, rfl, rfl, rfl⟩, rfl, rfl, rfl, rfl, rfl, rfl⟩

/-- The end of the 16-bit range, with each of the four reasons for a failure. -/
theorem witness_FailurePastTheTopIsRefused :
    let s := fun v => entered v .other 0 .w16 0xFFFD
    (s none).vmxMode = .root ∧ (s none).cpu.mode = .other ∧ (s none).cpu.cpl = 0 ∧ (∀ v, ¬ (s v).NextInRange)
      ∧ (s none).currentVmcs = none ∧ ((s (some v32)).setMovss true).movssBlocking = true
      ∧ v32.launchState ≠ (kindOf .vmresume).needs
      ∧ readsDeviceMemory impl (s none).mem (opened .clear 5 8 0x80000021) = false
      ∧ (controlChecksPass impl (s none).mem (opened .clear 5 8 0x80000021)
          && hostChecksPass impl (opened .clear 5 8 0x80000021)
          && addrSpaceChecksPass impl true (opened .clear 5 8 0x80000021)) = false :=
  ⟨rfl, rfl, rfl, fun _ => witness_NextInRange_boundaries.2.1, rfl, rfl, by decide, opened_ordinary _ _ _ _ _,
    by rw [opened_controls]; rfl⟩

theorem witness_OutsideRootOperationIsRefused : (first.setVmxMode .nonRoot).vmxMode ≠ .root := by decide

theorem witness_ClearedFlagsLeaveOne : demo.vmfailOtherFlags = .clear
    ∧ (∃ t, vmEntry demo .launch (start none) = .next t) ∧ entryOutcome demo .launch (start none) = .vmFailInvalid
    ∧ (∃ t, vmEntry demo .resume (start (some v32)) = .next t)
    ∧ entryOutcome demo .resume (start (some v32)) = .vmFailValid 5 :=
  ⟨rfl, ⟨_, rfl⟩, rfl, ⟨_, rfl⟩, by decide +kernel⟩

/-! ### Step 2 -/

/-- The greatest CR3-target count that passes and the least that does not (R94). -/
theorem witness_ReservedControlBitsByBit : cr3TargetCountOk impl (opened .clear 4 8 0x80000021) = true
    ∧ cr3TargetCountOk impl (opened .clear 5 8 0x80000021) = false := ⟨rfl, rfl⟩

/-- Areas that end at the top of a 32-bit physical address space and one entry past it, each area of the VMCS by itself. -/
theorem witness_MsrAreaLiesBelowTheTop :
    let p := { demo with paw := 32 }
    let fits : MsrArea := ⟨0xFFFFFFE0, 2⟩
    let late : MsrArea := ⟨0xFFFFFFE0, 3⟩
    let v := fun a b c => ctl v32 fun k => { k with exitMsrStore := a, exitMsrLoad := b, entryMsrLoad := c }
    exitMsrStoreEndOk p (v fits late late) = true ∧ exitMsrStoreEndOk p (v late fits fits) = false
      ∧ exitMsrLoadEndOk p (v late fits late) = true ∧ exitMsrLoadEndOk p (v fits late fits) = false
      ∧ entryMsrLoadEndOk p (v late late fits) = true ∧ entryMsrLoadEndOk p (v fits fits late) = false := by
  decide +kernel

theorem witness_TprThresholdComparison : readsDeviceMemory demo (oneByte 0x12080 0x40) v64 = false
    ∧ useTprShadow demo v64 = true ∧ virtualApicPageOk demo v64 = true := by decide +kernel

theorem witness_DevicePageIsRefused :
    (start (some v64)).PassesStep1 .launch v64 ∧ useTprShadow { demo with isRam := fun _ => false } v64 = true
      ∧ virtualApicPageOk { demo with isRam := fun _ => false } v64 = true
      ∧ ({ demo with isRam := fun _ => false } : Impl).isRam (v64.ctl.virtualApicPage.toNat + 128) = false :=
  ⟨⟨rfl, rfl, rfl, rfl, rfl, rfl⟩, by decide +kernel, by decide +kernel, rfl⟩

theorem witness_DisabledFieldsDoNotMatter : useTprShadow demo v32 = false ∧ activateIoBitmaps demo v32 = false
    ∧ (v32.ctl.exitMsrStore.count = 0 ∧ v32.ctl.exitMsrLoad.count = 0 ∧ v32.ctl.entryMsrLoad.count = 0)
    ∧ infoValid v32.ctl.entryIntInfo = false ∧ infoValid 0x700 = false := by decide +kernel

theorem witness_Cr3CheckIsWithinPaw : Impl.pawOk { demo with paw := 32 } = true ∧ Impl.pawOk { demo with paw := 52 } = true := by
  decide

theorem witness_HostSelectorsAreAtLeastEight :
    hostSelectorBitsOk (host v32 fun h => { h with csSel := 8, trSel := 8 }) = true
      ∧ hostCsTrNotNull (host v32 fun h => { h with csSel := 8, trSel := 8 }) = true := by decide +kernel

theorem witness_Ia32eGuestNeedsLongModeHost : addrSpaceChecksPass demo true v64 = true ∧ ia32eModeGuest demo v64 = true := by
  decide +kernel

theorem ready_step1 (i : Instr) : (ready i n cs cr0).PassesStep1 (kindOf i) (opened (kindOf i).needs n cs cr0) :=
  ⟨rfl, rfl, rfl, rfl, rfl, rfl⟩

/-- Five CR3-target values: a control check fails, no other. -/
theorem witness_ControlFailureReportsItsClass (i : Instr) :
    let v := opened (kindOf i).needs 5 8 0x80000021
    let s := ready i 5 8 0x80000021
    s.PassesStep1 (kindOf i) v ∧ s.NextInRange ∧ readsDeviceMemory impl s.mem v = false
      ∧ controlChecksPass impl s.mem v = false ∧ hostChecksPass impl v = true
      ∧ addrSpaceChecksPass impl s.cpu.lma v = true :=
  ⟨ready_step1 _ _ _ i, ready_range _, opened_ordinary _ _ _ _ _, by rw [opened_controls]; rfl,
    by rw [opened_host]; decide, opened_addrSpace _ _ _ _ _⟩

/-- A host CS selector with RPL 3: a host check fails, no other. -/
theorem witness_HostFailureReportsItsClass (i : Instr) :
    let v := opened (kindOf i).needs 4 0x13 0x80000021
    let s := ready i 4 0x13 0x80000021
    s.PassesStep1 (kindOf i) v ∧ s.NextInRange ∧ readsDeviceMemory impl s.mem v = false
      ∧ controlChecksPass impl s.mem v = true ∧ hostChecksPass impl v = false
      ∧ addrSpaceChecksPass impl s.cpu.lma v = true :=
  ⟨ready_step1 _ _ _ i, ready_range _, opened_ordinary _ _ _ _ _, by rw [opened_controls]; rfl,
    by rw [opened_host]; decide, opened_addrSpace _ _ _ _ _⟩

/-- Both classes fail. -/
theorem witness_AnyStep2FailureFailsValid (i : Instr) :
    let v := opened (kindOf i).needs 5 0x13 0x80000021
    let s := ready i 5 0x13 0x80000021
    s.PassesStep1 (kindOf i) v ∧ s.NextInRange ∧ readsDeviceMemory impl s.mem v = false
      ∧ (controlChecksPass impl s.mem v && hostChecksPass impl v && addrSpaceChecksPass impl s.cpu.lma v) = false :=
  ⟨ready_step1 _ _ _ i, ready_range _, opened_ordinary _ _ _ _ _, by rw [opened_controls]; rfl⟩

theorem witness_ReportedErrorIsJustified : Impl.errorsOk demo = true
    ∧ (start (some (ctl v32 fun c => { c with cr3TargetCount := 5 }))).PassesStep1 .launch
        (ctl v32 fun c => { c with cr3TargetCount := 5 })
    ∧ entryOutcome demo .launch (start (some (ctl v32 fun c => { c with cr3TargetCount := 5 }))) = .vmFailValid 7 :=
  ⟨by decide, ⟨rfl, rfl, rfl, rfl, rfl, rfl⟩, by decide +kernel⟩

/-! ### Step 3 and the completed entry -/

theorem ready_step2 (i : Instr) (cr0 : Word64) :
    PassesStep2 impl (ready i 0 8 cr0) (opened (kindOf i).needs 0 8 cr0) :=
  ⟨opened_ordinary _ _ _ _ _, by rw [opened_controls]; rfl, by rw [opened_host]; decide, opened_addrSpace _ _ _ _ _⟩

/-- A guest CR0 without NE. -/
theorem witness_GuestCheckFailureIsLikeExit (i : Instr) :
    let v := opened (kindOf i).needs 0 8 0x80000001
    let s := ready i 0 8 0x80000001
    s.PassesStep1 (kindOf i) v ∧ PassesStep2 impl s v
      ∧ (guestRegisterChecksPass impl v && guestSegmentChecksPass impl s v) = false :=
  ⟨ready_step1 _ _ _ i, ready_step2 i _, by
    rw [opened_guestRegisters]
    have : reservedOk (0x80000021 : Word64) 0 0x80000001 = false := by decide
    rw [this]; rfl⟩

theorem witness_PassingEntryCompletes (i : Instr) :
    let v := opened (kindOf i).needs 0 8 0x80000021
    let s := ready i 0 8 0x80000021
    s.PassesStep1 (kindOf i) v ∧ PassesStep2 impl s v ∧ guestRegisterChecksPass impl v = true
      ∧ guestSegmentChecksPass impl s v = true :=
  ⟨ready_step1 _ _ _ i, ready_step2 i _, by rw [opened_guestRegisters]; decide, opened_guestSegments _ _ _ _ _⟩

theorem witness_GuestIsEnteredUnderEveryImplementation :
    (start (some v64)).PassesStep1 .launch v64 ∧ PassesStep2 demo (start (some v64)) v64
      ∧ guestRegisterChecksPass demo v64 = true ∧ guestSegmentChecksPass demo (start (some v64)) v64 = true
      ∧ demo.lostGuestChecksPass (start (some v64)) = true ∧ v64.ctl.entryMsrLoad.count ≠ 0
      ∧ (demo.msrLoad (loadGuestState demo (start (some v64)))).isSome = true :=
  ⟨⟨rfl, rfl, rfl, rfl, rfl, rfl⟩, ⟨by decide +kernel, by decide +kernel, by decide +kernel, by decide +kernel⟩,
    by decide +kernel, by decide +kernel, rfl, by decide, rfl⟩

/-- No MSR to load and no event to inject, by `VMRESUME`. -/
theorem witness_GuestIsEnteredUnderEveryImplementation_count0 :
    (start (some launched)).PassesStep1 .resume launched ∧ PassesStep2 demo (start (some launched)) launched
      ∧ guestRegisterChecksPass demo launched = true ∧ guestSegmentChecksPass demo (start (some launched)) launched = true
      ∧ demo.lostGuestChecksPass (start (some launched)) = true ∧ launched.ctl.entryMsrLoad.count = 0
      ∧ infoValid launched.ctl.entryIntInfo = false :=
  ⟨⟨rfl, rfl, rfl, rfl, rfl, rfl⟩, ⟨by decide +kernel, by decide +kernel, by decide +kernel, by decide +kernel⟩,
    by decide +kernel, by decide +kernel, rfl, rfl, by decide⟩

theorem witness_CodeSegmentTypesAllowed : v86Guest v32 = false := by decide

theorem witness_OrdinaryGuestDemands : v86Guest v64 = false := by decide

theorem witness_Virtual8086GuestDemands : v86Guest g86 = true := by decide

theorem witness_UnusableRegistersDoNotMatter :
    let v := guest v32 fun g => { g with ds := unusable, es := unusable }
    v86Guest v = false ∧ usable (seg 0xFFFF 0xFFFFFFFFFFFFFFFF 0xFFFFFFFF 0x1FFFF) = false ∧ usable v.guest.ds = false
      ∧ usable v.guest.es = false ∧ usable v.guest.ldtr = false := by decide

theorem witness_RaggedLimitNeverPasses :
    slice (seg 0 0 0x00100000 0).limit 11 0 ≠ 0xFFF ∧ slice (seg 0 0 0x00100000 0).limit 31 20 ≠ 0 := by decide

theorem witness_DoubtfulReservedBits : guestSegmentRulesOk demo v32 = true ∧ optionalReservedHighZero v32 = true
    ∧ guestSegmentRulesOk demo ragged = true ∧ optionalReservedHighZero ragged = false := by decide +kernel

/-! ### The whole machine -/

theorem witness_GuestEntryIsSound :
    (∃ t, step first = .next t) ∧ ∃ t, vmEntry demo .launch (start (some v64)) = .next t ∧ t.vmxMode = .nonRoot :=
  ⟨⟨_, rfl⟩, by
    have h : entryOutcome demo .launch (start (some v64)) = .checksPassed := by decide +kernel
    exact ⟨_, by rw [vmEntry, h]; rfl, rfl⟩⟩

theorem witness_LaunchStateChangesOnlyOnEntry :
    ∃ t, vmEntry demo .launch (start (some v64)) = .next t ∧ t.launchState ≠ (start (some v64)).launchState := by
  have h : entryOutcome demo .launch (start (some v64)) = .checksPassed := by decide +kernel
  exact ⟨_, by rw [vmEntry, h]; rfl, by decide +kernel⟩

/-- `VMLAUNCH` placed before a launched VMCS. -/
def relaunch : State := (start (some launched)).withFetchWord 24 0x0F01C2

theorem witness_LaunchedStaysLaunched :
    (∃ t : State, core.run 1 relaunch = .next t) ∧ relaunch.launchState = some .launched := ⟨⟨_, rfl⟩, rfl⟩

theorem witness_StateAreasAreNeverWritten : ∃ t : State, core.run 1 relaunch = .next t := ⟨_, rfl⟩

/-- The error field before the step differs from the number that the step stores. -/
def stale : State :=
  (start (some { launched with vmInstructionError := impl.errLaunchNotClear + 1 })).withFetchWord 24 0x0F01C2

theorem witness_ErrorFieldChangesOnlyOnVmfail : ∃ t, step stale = .next t ∧ t.errorField ≠ stale.errorField := by
  refine ⟨_, rfl, ?_⟩
  show some impl.errLaunchNotClear ≠ some (impl.errLaunchNotClear + 1)
  intro h
  have h2 := congrArg (· - impl.errLaunchNotClear) (Option.some.inj h)
  simp at h2

end Sys2Proof.Tests
end

section
/-! The parameters of the machine's own implementation, the bits of a canonical address, and the status flags that a
VM-instruction failure leaves under `VMFAIL_OTHER_FLAGS` = clear (00_scope.md R5, R9). -/

namespace Sys2Proof.Machine

/-! ### The machine's parameters -/

/-- The two masks of a control word share no bit (42_control_checks.md R90). -/
theorem masksDisjoint_reserved (ones zeros named : Word32) :
    masksDisjoint (reservedOnes ones named) (reservedZeros ones zeros named) = true := by
  have h : reservedOnes ones named &&& reservedZeros ones zeros named = 0 := by
    ext i hi; simp [reservedOnes, reservedZeros]; grind
  simp [masksDisjoint, h]

/-- Both masks of a control word leave out its named controls (42_control_checks.md R91). -/
theorem controlIsFree_reserved (ones zeros : Word32) {named : Word32} {pos : Nat} (hpos : pos < 32)
    (hnamed : named.getLsbD pos = true) :
    controlIsFree (reservedOnes ones named) (reservedZeros ones zeros named) pos = true := by
  have hzeros : (reservedZeros ones zeros named).getLsbD pos = false := by simp [reservedZeros, hnamed]
  rw [controlIsFree, reservedOnes_named ones named hnamed, hzeros, decide_eq_true hpos]
  rfl

theorem impl_pawOk : impl.pawOk = true := by simp [Impl.pawOk, impl_paw_lower, impl_paw_upper]

theorem impl_lawOk : impl.lawOk = true := by simp [Impl.lawOk, impl_law_lower, impl_law_upper]

theorem impl_masksOk : impl.masksOk = true := by
  have hpin : masksDisjoint impl.pinMust1 impl.pinMust0 = true := masksDisjoint_reserved _ _ _
  have hproc : masksDisjoint impl.procMust1 impl.procMust0 = true := masksDisjoint_reserved _ _ _
  have hexit : masksDisjoint impl.exitMust1 impl.exitMust0 = true := masksDisjoint_reserved _ _ _
  have hentry : masksDisjoint impl.entryMust1 impl.entryMust0 = true := masksDisjoint_reserved _ _ _
  have hcr : masksDisjoint impl.cr0Must1 impl.cr0Must0 = true ∧ masksDisjoint impl.cr4Must1 impl.cr4Must0 = true := by
    simp [masksDisjoint]
  simp only [Impl.masksOk, hpin, hproc, hexit, hentry, hcr, Bool.and_self]

theorem impl_cacheBitsFree : impl.cacheBitsFree = true := by simp [Impl.cacheBitsFree]

/-- The two named controls of the processor-based word have distinct positions (decision D15). -/
theorem impl_procControls_ne : impl.ctlActivateIoBitmaps ≠ impl.ctlUseTprShadow := by
  intro h
  have hfin : (25 : Fin 32) = 21 := Config.procPositions.injective (Fin.ext h)
  exact absurd hfin (by decide)

theorem impl_controlsOk : impl.controlsOk = true := by
  have hio : controlIsFree impl.procMust1 impl.procMust0 impl.ctlActivateIoBitmaps = true :=
    controlIsFree_reserved _ _ (Fin.isLt _) procNamed_ioBitmaps
  have htpr : controlIsFree impl.procMust1 impl.procMust0 impl.ctlUseTprShadow = true :=
    controlIsFree_reserved _ _ (Fin.isLt _) procNamed_tprShadow
  have hexit : controlIsFree impl.exitMust1 impl.exitMust0 impl.ctlHostAddrSpaceSize = true :=
    controlIsFree_reserved _ _ (Fin.isLt _) exitNamed_hostSize
  have hentry : controlIsFree impl.entryMust1 impl.entryMust0 impl.ctlIa32eModeGuest = true :=
    controlIsFree_reserved _ _ (Fin.isLt _) entryNamed_ia32e
  simp [Impl.controlsOk, hio, htpr, impl_procControls_ne, hexit, hentry]

/-- The error numbers are the images of five numbers under one permutation, so they are distinct (decision D3). -/
theorem impl_errorsOk : impl.errorsOk = true := by
  have hmap : impl.errorNumbers = [26, 4, 5, 7, 8].map Config.errorNumbering := rfl
  have hnodup : ([26, 4, 5, 7, 8] : List Word32).Nodup := by decide
  rw [Impl.errorsOk, hmap]
  exact decide_eq_true (hnodup.map Config.errorNumbering.injective)

theorem typeCode_injective : Function.Injective typeCode := by decide

/-- The codes leave out the reserved 1 and 7 (42_control_checks.md R95). -/
theorem typeCode_not_reserved (n : Fin 6) : typeCode n ≠ 1 ∧ typeCode n ≠ 7 := by
  revert n; decide

/-- The codes are all of `typeCode`, in the order of one permutation (decision D16). -/
theorem impl_typeCodes :
    impl.typeCodes = (List.finRange 6).map fun n => typeCode (Config.typeNumbering n) := rfl

theorem impl_typesOk : impl.typesOk = true := by
  have hnodup : impl.typeCodes.Nodup := by
    rw [impl_typeCodes]
    exact (List.nodup_finRange 6).map (typeCode_injective.comp Config.typeNumbering.injective)
  have hfree : ∀ c ∈ impl.typeCodes, c ≠ 1 ∧ c ≠ 7 := by
    intro c hc
    rw [impl_typeCodes] at hc
    obtain ⟨n, -, rfl⟩ := List.mem_map.1 hc
    exact typeCode_not_reserved _
  simpa [Impl.typesOk, hnodup] using hfree

/-- Settles O9: one lemma per group of constraints. -/
theorem implementationIsWithinTheSpec : Obligations.ImplementationIsWithinTheSpec := by
  unfold Obligations.ImplementationIsWithinTheSpec Impl.wf
  simp only [impl_pawOk, impl_lawOk, impl_masksOk, impl_cacheBitsFree, impl_controlsOk, impl_errorsOk, impl_typesOk,
    Bool.and_self]

/-! ### Canonical addresses -/

/-- Cutting an address to `n` bits and extending its sign again repeats bit `n - 1` upwards and keeps the bits below. -/
theorem bit_signExtend_setWidth (a : Word64) {n k : Nat} (hn : 1 ≤ n) (hk : k < 64) :
    bit ((a.setWidth n).signExtend 64) k = if k < n then bit a k else bit a (n - 1) := by
  have hlast : n - 1 < n := by omega
  simp only [bit, BitVec.getLsbD_signExtend, BitVec.msb_eq_getLsbD_last, BitVec.getLsbD_setWidth, hk, hlast,
    decide_true, Bool.true_and]
  split <;> simp [*]

/-- An address is canonical when sign extension from `LAW` bits gives each of its bits. -/
theorem canonical_iff_bits (p : Impl) (a : Word64) :
    canonical p a = true ↔ ∀ k, k < 64 → bit a k = bit ((a.setWidth p.law).signExtend 64) k := by
  rw [canonical, beq_iff_eq]
  exact ⟨fun h k _ => congrArg (bit · k) h, BitVec.eq_of_getLsbD_eq⟩

/-- Settles O10: below bit `LAW - 1` sign extension changes nothing, from there up it repeats that bit. -/
theorem canonicalMeansUpperBitsEqual : Obligations.CanonicalMeansUpperBitsEqual := by
  unfold Obligations.CanonicalMeansUpperBitsEqual
  intro p a hlaw
  have hpos : 1 ≤ p.law := by
    simp only [Impl.lawOk, Bool.and_eq_true, decide_eq_true_eq] at hlaw
    exact hlaw.1
  rw [canonical_iff_bits]
  constructor
  · intro h k hge hk
    have hbit := h k hk
    rw [bit_signExtend_setWidth a hpos hk] at hbit
    split at hbit
    · next hlt => rw [show k = p.law - 1 by omega]
    · exact hbit
  · intro h k hk
    rw [bit_signExtend_setWidth a hpos hk]
    split
    · rfl
    · exact h k (by omega) hk

/-! ### The status flags under `VMFAIL_OTHER_FLAGS` = clear (decision D2) -/

/-- With no other status flag set, a status flag after a VM-instruction failure is 1 exactly if it is the one set. -/
theorem failureFlags_zero_status {flag rflags : Word64} {k : Nat} (hk : statusFlags.getLsbD k = true) :
    (failureFlags flag 0 rflags).getLsbD k = flag.getLsbD k := by
  simp [failureFlags, hk]

theorem statusFlags_at_positions : ∀ k ∈ statusFlagPositions, statusFlags.getLsbD k = true := by decide

theorem flagCF_at_positions : ∀ k ∈ statusFlagPositions, flagCF.getLsbD k = (k == 0) := by decide

theorem flagZF_at_positions : ∀ k ∈ statusFlagPositions, flagZF.getLsbD k = (k == 6) := by decide

/-- Under `clear` the status flags after a VM-instruction failure are those of `flag`. -/
theorem failToNext_status_of_clear {p : Impl} (hp : p.vmfailOtherFlags = .clear) (flag rip : Word64) (s : State) :
    ∀ k ∈ statusFlagPositions, bit (failToNext p flag rip s).cpu.rflags k = flag.getLsbD k := by
  intro k hk
  obtain ⟨hcpu, -⟩ := failToNext_fields p flag rip s
  have hothers : otherStatusFlags p s = 0 := by rw [otherStatusFlags, hp]
  rw [hcpu, hothers]
  exact failureFlags_zero_status (statusFlags_at_positions k hk)

theorem vmEntry_of_vmFailInvalid {p : Impl} {kind : EntryKind} {s : State}
    (h : entryOutcome p kind s = .vmFailInvalid) : vmEntry p kind s = vmFailInvalid p s := by
  rw [vmEntry, h, performOutcome]

theorem vmEntry_of_vmFailValid {p : Impl} {kind : EntryKind} {s : State} {e : Word32}
    (h : entryOutcome p kind s = .vmFailValid e) : vmEntry p kind s = vmFailValid p e s := by
  rw [vmEntry, h, performOutcome]

/-- Settles O22: both failures are `failToNext`, with CF (R66) or ZF (R67) as the flag. -/
theorem clearedFlagsLeaveOne : Obligations.ClearedFlagsLeaveOne := by
  unfold Obligations.ClearedFlagsLeaveOne
  intro p kind s t hp ht
  constructor
  · intro ho k hk
    obtain ⟨rip, -, rfl⟩ := vmFailInvalid_next (vmEntry_of_vmFailInvalid ho ▸ ht)
    rw [failToNext_status_of_clear hp _ _ _ k hk, flagCF_at_positions k hk]
  · intro e ho k hk
    obtain ⟨rip, -, rfl⟩ := vmFailValid_next (vmEntry_of_vmFailValid ho ▸ ht)
    rw [State.mapVmcs_cpu, failToNext_status_of_clear hp _ _ _ k hk, flagZF_at_positions k hk]

end Sys2Proof.Machine
end

section
/-! The state a VM entry starts from and the state it leaves (10_state.md): what a successful step presupposes (R19), the
failures that would leave the instruction pointer's range (R11), the reset state (R44), and the areas of the current VMCS
that no run writes (R16). -/

namespace Sys2Proof.Machine

/-- The VM entry an instruction invokes is that of its kind. -/
theorem exec_eq_vmEntry (i : Instr) (s : State) : exec i s = vmEntry impl (kindOf i) s := by
  cases i with
  | vmlaunch => rfl
  | vmresume => rfl

/-! ### Outside VMX root operation -/

/-- The premise of the algorithm comes before every check of step 1 (10_state.md R19). -/
theorem entryOutcome_of_not_root {p : Impl} {kind : EntryKind} {s : State} (h : s.vmxMode ≠ .root) :
    entryOutcome p kind s = .refuse .outsideVmxRootOperation := by
  rw [entryOutcome, if_pos h]

/-- Settles O21: the refusal is the outcome of either kind, before any check. -/
theorem outsideRootOperationIsRefused : Obligations.OutsideRootOperationIsRefused := by
  unfold Obligations.OutsideRootOperationIsRefused
  intro i s h
  rw [exec_eq_vmEntry, vmEntry, entryOutcome_of_not_root h, performOutcome]

/-- A VM entry that gives a next state ends in neither an exception nor a refusal. -/
theorem entryOutcome_of_vmEntry_next {p : Impl} {kind : EntryKind} {s t : State} (h : vmEntry p kind s = .next t) :
    entryOutcome p kind s ≠ .invalidOpcode ∧ entryOutcome p kind s ≠ .generalProtection
      ∧ ∀ r, entryOutcome p kind s ≠ .refuse r := by
  obtain ⟨ho, -⟩ | ⟨e, ho, -⟩ | ⟨ho, -⟩ | ⟨ho, -⟩ := vmEntry_next h <;> simp [ho]

/-- Settles O53: an outcome that goes on has passed the premise of R19 and checks 1 and 2 (R81, R82). -/
theorem successfulStepsArePrivileged : Obligations.SuccessfulStepsArePrivileged := by
  unfold Obligations.SuccessfulStepsArePrivileged
  intro s t h
  obtain ⟨_, kind, -, hentry⟩ := step_next h
  obtain ⟨hud, hgp, href⟩ := entryOutcome_of_vmEntry_next hentry
  exact entryOutcome_privileged hud hgp (href _)

/-- Settles O59: a step to a next state would have started in VMX root operation. -/
theorem nonRootGivesNoStep : Obligations.NonRootGivesNoStep := by
  unfold Obligations.NonRootGivesNoStep
  intro s t hnon h
  obtain ⟨hroot, -, -⟩ := successfulStepsArePrivileged s t h
  simp [hnon] at hroot

/-! ### The state after reset -/

/-- Settles O7: both byte stores are empty after reset. -/
theorem resetIsGood : Obligations.ResetIsGood where
  memWf := Memory.wf_empty
  codeWf := Memory.wf_empty
  memOrdinary _ hc := absurd hc List.not_mem_nil

/-! ### Failures past the top of the instruction pointer's range -/

/-- `ripFits` decides `State.NextInRange` on this machine. -/
theorem ripFits_iff_nextInRange (s : State) : ripFits impl s.cpu = true ↔ s.NextInRange := by
  unfold ripFits State.NextInRange
  cases s.cpu.ipWidth with
  | w16 => exact decide_eq_true_iff
  | w32 => exact decide_eq_true_iff
  | w64 => rw [Bool.and_eq_true, decide_eq_true_iff]

theorem nextRip_of_not_nextInRange {s : State} (h : ¬ s.NextInRange) : nextRip impl s.cpu = none := by
  rw [nextRip, if_neg (mt (ripFits_iff_nextInRange s).1 h)]

theorem vmFailInvalid_of_not_nextInRange {s : State} (h : ¬ s.NextInRange) :
    vmFailInvalid impl s = .refused .nextRipOutOfRange := by
  simp only [vmFailInvalid, nextRip_of_not_nextInRange h]

theorem vmFailValid_of_not_nextInRange {s : State} (e : Word32) (h : ¬ s.NextInRange) :
    vmFailValid impl e s = .refused .nextRipOutOfRange := by
  simp only [vmFailValid, nextRip_of_not_nextInRange h]

section
variable {p : Impl} {kind : EntryKind} {s : State} {v : Vmcs}

/-- Check 3 (41_basic_checks.md R83). -/
theorem entryOutcome_of_no_vmcs (hroot : s.vmxMode = .root) (hmode : s.cpu.mode = .other) (hcpl : s.cpu.cpl = 0)
    (hv : s.currentVmcs = none) : entryOutcome p kind s = .vmFailInvalid := by
  simp [entryOutcome, hroot, hmode, hcpl, hv]

/-- Check 4 (a) (41_basic_checks.md R84). -/
theorem entryOutcome_of_movss (hroot : s.vmxMode = .root) (hmode : s.cpu.mode = .other) (hcpl : s.cpu.cpl = 0)
    (hv : s.currentVmcs = some v) (hss : s.movssBlocking = true) :
    entryOutcome p kind s = .vmFailValid p.errMovss := by
  simp [entryOutcome, hroot, hmode, hcpl, hv, hss]

/-- Check 4 (b) and (c) (41_basic_checks.md R85, R86). -/
theorem entryOutcome_of_wrong_launchState (hroot : s.vmxMode = .root) (hmode : s.cpu.mode = .other)
    (hcpl : s.cpu.cpl = 0) (hv : s.currentVmcs = some v) (hss : s.movssBlocking = false)
    (hl : v.launchState ≠ kind.needs) : entryOutcome p kind s = .vmFailValid (launchStateError p kind) := by
  simp [entryOutcome, hroot, hmode, hcpl, hv, hss, hl]

/-- The set `E` of step 2 is empty exactly when every check of step 2 passes (40_vm_entry_sequence.md R63, 43 R138). -/
theorem step2Errors_eq_nil_iff : step2Errors p s v = [] ↔
    (controlChecksPass p s.mem v && hostChecksPass p v && addrSpaceChecksPass p s.cpu.lma v) = true := by
  simp only [step2Errors, List.append_eq_nil_iff]
  grind

/-- Some number of a set `E` that is not empty is reported. -/
theorem chooseError_of_ne_nil {second : Bool} {es : List Word32} (h : es ≠ []) : ∃ e, chooseError second es = some e := by
  match es with
  | [] => exact absurd rfl h
  | [e] => exact ⟨e, rfl⟩
  | _ :: _ :: _ => exact ⟨_, rfl⟩

/-- A failed check of step 2 is a VM-instruction failure (40_vm_entry_sequence.md R70). -/
theorem checkVmcs_of_step2_failure (hordinary : readsDeviceMemory p s.mem v = false)
    (hfail : (controlChecksPass p s.mem v && hostChecksPass p v && addrSpaceChecksPass p s.cpu.lma v) = false) :
    ∃ e, checkVmcs p s v = .vmFailValid e := by
  have hE : step2Errors p s v ≠ [] := fun hnil => by simp [step2Errors_eq_nil_iff.1 hnil] at hfail
  obtain ⟨e, he⟩ := chooseError_of_ne_nil (second := p.reportsHostError s) hE
  exact ⟨e, by simp [checkVmcs, hordinary, he]⟩

/-- With a current VMCS, MOV-SS blocking, a wrong launch state or a failed check of step 2 is a VM-instruction failure. -/
theorem entryOutcome_vmFailValid_of_failure (hroot : s.vmxMode = .root) (hmode : s.cpu.mode = .other)
    (hcpl : s.cpu.cpl = 0) (hv : s.currentVmcs = some v)
    (hfail : s.movssBlocking = true ∨ v.launchState ≠ kind.needs ∨ ∃ e, checkVmcs p s v = .vmFailValid e) :
    ∃ e, entryOutcome p kind s = .vmFailValid e := by
  by_cases hss : s.movssBlocking = true
  · exact ⟨_, entryOutcome_of_movss hroot hmode hcpl hv hss⟩
  · rw [Bool.not_eq_true] at hss
    by_cases hl : v.launchState = kind.needs
    · obtain ⟨e, he⟩ := (hfail.resolve_left (by simp [hss])).resolve_left (not_not_intro hl)
      exact ⟨e, entryOutcome_of_step1 ⟨hroot, hmode, hcpl, hv, hss, hl⟩ ▸ he⟩
    · exact ⟨_, entryOutcome_of_wrong_launchState hroot hmode hcpl hv hss hl⟩

end

/-- Settles O20: each of the four ways ends in a VM-instruction failure, and neither failure has a next instruction. -/
theorem failurePastTheTopIsRefused : Obligations.FailurePastTheTopIsRefused := by
  unfold Obligations.FailurePastTheTopIsRefused
  intro i s hroot hmode hcpl hrange hfail
  rw [exec_eq_vmEntry]
  cases hv : s.currentVmcs with
  | none =>
    rw [vmEntry_of_vmFailInvalid (entryOutcome_of_no_vmcs hroot hmode hcpl hv)]
    exact vmFailInvalid_of_not_nextInRange hrange
  | some v =>
    have hcause : s.movssBlocking = true ∨ v.launchState ≠ (kindOf i).needs
        ∨ ∃ e, checkVmcs impl s v = .vmFailValid e := by
      obtain hnone | hss | ⟨v', hv', hl | ⟨hordinary, hchecks⟩⟩ := hfail
      · simp [hv] at hnone
      · exact .inl hss
      · obtain rfl : v = v' := Option.some.inj (hv.symm.trans hv')
        exact .inr (.inl hl)
      · obtain rfl : v = v' := Option.some.inj (hv.symm.trans hv')
        exact .inr (.inr (checkVmcs_of_step2_failure hordinary hchecks))
    obtain ⟨e, ho⟩ := entryOutcome_vmFailValid_of_failure hroot hmode hcpl hv hcause
    rw [vmEntry_of_vmFailValid ho]
    exact vmFailValid_of_not_nextInRange e hrange

/-! ### The host-state and guest-state areas of the current VMCS -/

/-- The host-state and guest-state areas of the current VMCS, if there is one. -/
def State.stateAreas (s : State) : Option (HostState × GuestState) := s.currentVmcs.map fun v => (v.host, v.guest)

/-- The areas are a part of the current VMCS alone. -/
theorem State.stateAreas_congr {s t : State} (h : t.currentVmcs = s.currentVmcs) : t.stateAreas = s.stateAreas := by
  rw [stateAreas, stateAreas, h]

/-- A change of other parts of the current VMCS keeps the areas. -/
theorem State.stateAreas_of_map {s t : State} {f : Vmcs → Vmcs} (h : t.currentVmcs = s.currentVmcs.map f)
    (hhost : ∀ v, (f v).host = v.host) (hguest : ∀ v, (f v).guest = v.guest) : t.stateAreas = s.stateAreas := by
  simp only [stateAreas, h, Option.map_map, Function.comp_def, hhost, hguest]

theorem entryFailsLikeExit_stateAreas (p : Impl) (cause : FailureCause) (s : State) :
    (entryFailsLikeExit p cause s).stateAreas = s.stateAreas := by
  obtain ⟨-, -, hv, -⟩ := entryFailsLikeExit_fields p cause s
  exact State.stateAreas_of_map hv (fun _ => rfl) fun _ => rfl

theorem loadGuestState_stateAreas (p : Impl) (s : State) : (loadGuestState p s).stateAreas = s.stateAreas :=
  State.stateAreas_congr rfl

theorem loadMsrs_stateAreas {p : Impl} {s t : State} (h : loadMsrs p s = some t) : t.stateAreas = s.stateAreas := by
  obtain ⟨c, rfl | rfl⟩ := loadMsrs_next h
  · exact State.stateAreas_congr rfl
  · rfl

theorem markLaunched_stateAreas (kind : EntryKind) (s : State) : (markLaunched kind s).stateAreas = s.stateAreas := by
  cases kind with
  | launch => exact State.stateAreas_of_map (State.mapVmcs_currentVmcs s _) (fun _ => rfl) fun _ => rfl
  | resume => rfl

theorem injectEvent_stateAreas (p : Impl) (s : State) : (injectEvent p s).stateAreas = s.stateAreas := by
  obtain h | h := injectEvent_cases p s
  · rw [h]
  · rw [h]
    exact State.stateAreas_of_map (State.mapVmcs_currentVmcs _ _) (fun _ => rfl) fun _ => rfl

theorem inGuest_stateAreas (p : Impl) (s : State) : (inGuest p s).stateAreas = s.stateAreas :=
  State.stateAreas_congr rfl

/-- Neither the steps into the guest nor a failure on the way writes the areas (log 34). -/
theorem continueEntry_stateAreas (p : Impl) (kind : EntryKind) (s : State) :
    (continueEntry p kind s).stateAreas = s.stateAreas := by
  obtain ⟨s4, -, hm, hc⟩ | ⟨-, -, hc⟩ | ⟨-, hc⟩ := continueEntry_cases p kind s
  · rw [hc, inGuest_stateAreas, injectEvent_stateAreas, markLaunched_stateAreas, loadMsrs_stateAreas hm,
      loadGuestState_stateAreas]
  · rw [hc, entryFailsLikeExit_stateAreas, loadGuestState_stateAreas]
  · rw [hc, entryFailsLikeExit_stateAreas]

/-- A VM-instruction failure writes of the VMCS the error field alone, any other outcome with a next state none of the
areas. -/
theorem vmEntry_stateAreas {p : Impl} {kind : EntryKind} {s t : State} (h : vmEntry p kind s = .next t) :
    t.stateAreas = s.stateAreas := by
  obtain ⟨-, hf⟩ | ⟨e, -, hf⟩ | ⟨-, rfl⟩ | ⟨-, rfl⟩ := vmEntry_next h
  · obtain ⟨rip, -, rfl⟩ := vmFailInvalid_next hf
    exact State.stateAreas_congr rfl
  · obtain ⟨rip, -, rfl⟩ := vmFailValid_next hf
    exact State.stateAreas_of_map (s := s) (State.mapVmcs_currentVmcs _ _) (fun _ => rfl) fun _ => rfl
  · exact entryFailsLikeExit_stateAreas p .guestState s
  · exact continueEntry_stateAreas p kind s

/-- A step that gives a next state keeps the areas, because its VM entry does. -/
theorem step_stateAreas {s t : State} (h : step s = .next t) : t.stateAreas = s.stateAreas := by
  obtain ⟨_, kind, -, hentry⟩ := step_next h
  exact vmEntry_stateAreas hentry

/-- Settles O58, by induction on the run. -/
theorem stateAreasAreNeverWritten : Obligations.StateAreasAreNeverWritten := by
  unfold Obligations.StateAreasAreNeverWritten
  exact run_induction (fun s t => t.stateAreas = s.stateAreas) (fun _ => rfl)
    fun _ _ _ hstep hrest => hrest.trans (step_stateAreas hstep)

end Sys2Proof.Machine
end

section
/-! Physical memory and its uses (20_memory.md): what `MemReadPhys` answers (R45, R48), the read of byte 128 of the
virtual-APIC page (R49, 42_control_checks.md R111), and the invariant that memory lists only ordinary bytes (R52). -/

namespace Sys2Proof.Machine

/-! ### `MemReadPhys` -/

theorem memReadPhys_zero (p : Impl) (m : Memory) (a : Nat) : memReadPhys p m a 0 = some [] := rfl

/-- A read of one byte or more answers exactly where its first byte is ordinary memory and the rest can be read. -/
theorem memReadPhys_succ_eq_some_iff {p : Impl} {m : Memory} {a n : Nat} {bs : List Byte} :
    memReadPhys p m a (n + 1) = some bs
      ↔ physOrdinary p a = true ∧ ∃ rest, memReadPhys p m (a + 1) n = some rest ∧ physByte p m a :: rest = bs := by
  rw [memReadPhys]
  split
  · next ha => simp only [ha, true_and, Option.map_eq_some_iff]
  · next ha => simp [ha]

/-- The bytes of physical memory from an address up, in rising order: the first one, and those from the next address. -/
theorem map_physByte_range_succ (p : Impl) (m : Memory) (a n : Nat) :
    ((List.range (n + 1)).map fun k => physByte p m (a + k))
      = physByte p m a :: (List.range n).map fun k => physByte p m (a + 1 + k) := by
  simp only [List.range_succ_eq_map, List.map_cons, List.map_map, Function.comp_def, Nat.add_zero, Nat.add_assoc,
    Nat.add_comm 1]

/-- The addresses from `a` up are ordinary memory exactly if `a` and those from `a + 1` up are. -/
theorem forall_lt_succ_physOrdinary {p : Impl} {a n : Nat} :
    (∀ k, k < n + 1 → physOrdinary p (a + k) = true)
      ↔ physOrdinary p a = true ∧ ∀ k, k < n → physOrdinary p (a + 1 + k) = true := by
  simp only [Nat.forall_lt_succ_left, Nat.add_zero, Nat.add_assoc, Nat.add_comm 1]

/-- Settles O6, by induction on the count at every address. -/
theorem physicalReadGivesTheBytes : Obligations.PhysicalReadGivesTheBytes := by
  unfold Obligations.PhysicalReadGivesTheBytes
  intro p m a n bs
  induction n generalizing a bs with
  | zero => simp [memReadPhys_zero]
  | succ n ih =>
    rw [memReadPhys_succ_eq_some_iff, forall_lt_succ_physOrdinary, map_physByte_range_succ, and_assoc]
    refine and_congr_right fun _ => ⟨?_, ?_⟩
    · rintro ⟨rest, hrest, rfl⟩
      obtain ⟨hordinary, rfl⟩ := (ih _ _).1 hrest
      exact ⟨hordinary, rfl⟩
    · rintro ⟨hordinary, rfl⟩
      exact ⟨_, (ih _ _).2 ⟨hordinary, rfl⟩, rfl⟩

/-! ### The read of the virtual-APIC page -/

section
variable {p : Impl} {m : Memory} {v : Vmcs}

/-- In ordinary memory the read of R111 gives byte 128 of the page (20_memory.md R49). -/
theorem virtualTpr_of_ordinary (h : physOrdinary p (v.ctl.virtualApicPage.toNat + 128) = true) :
    virtualTpr p m v = some (physByte p m (v.ctl.virtualApicPage.toNat + 128)) := by
  simp [virtualTpr, memReadPhys, h]

/-- Outside ordinary memory the read of R111 gives nothing (20_memory.md R48). -/
theorem virtualTpr_of_not_ordinary (h : physOrdinary p (v.ctl.virtualApicPage.toNat + 128) = false) :
    virtualTpr p m v = none := by
  simp [virtualTpr, memReadPhys, h]

theorem readsVirtualApicPage_iff :
    readsVirtualApicPage p v = true ↔ useTprShadow p v = true ∧ virtualApicPageOk p v = true := by
  rw [readsVirtualApicPage, Bool.and_eq_true]

/-- The read of R111 touches something other than ordinary memory when it is made and byte 128 of the page is none. -/
theorem readsDeviceMemory_iff : readsDeviceMemory p m v = true
    ↔ readsVirtualApicPage p v = true ∧ physOrdinary p (v.ctl.virtualApicPage.toNat + 128) = false := by
  rw [readsDeviceMemory, Bool.and_eq_true]
  refine and_congr_right fun _ => ?_
  cases h : physOrdinary p (v.ctl.virtualApicPage.toNat + 128) with
  | true => simp [virtualTpr_of_ordinary h]
  | false => simp [virtualTpr_of_not_ordinary h]

theorem tprThresholdFits_iff {threshold : Word32} {vtpr : Byte} :
    tprThresholdFits threshold vtpr = true ↔ slice threshold 3 0 ≤ slice vtpr 7 4 := decide_eq_true_iff

/-- Where the page is not read, the check of R111 passes (42_control_checks.md R102, R111). -/
theorem tprThresholdOk_of_not_read (h : readsVirtualApicPage p v = false) : tprThresholdOk p m v = true := by
  rw [tprThresholdOk, h]; rfl

/-- Where the page is read in ordinary memory, the check of R111 is its comparison with byte 128. -/
theorem tprThresholdOk_of_read (h : readsVirtualApicPage p v = true)
    (hord : physOrdinary p (v.ctl.virtualApicPage.toNat + 128) = true) :
    tprThresholdOk p m v
      = tprThresholdFits v.ctl.tprThreshold (physByte p m (v.ctl.virtualApicPage.toNat + 128)) := by
  simp only [tprThresholdOk, h, virtualTpr_of_ordinary hord, Bool.not_true, Bool.false_or]

end

/-- Settles O27: where the page is read, byte 128 is ordinary memory because the read is not of device memory. -/
theorem tprThresholdComparison : Obligations.TprThresholdComparison := by
  unfold Obligations.TprThresholdComparison
  intro p m v hdevice
  rw [← and_imp, ← readsVirtualApicPage_iff]
  cases hread : readsVirtualApicPage p v with
  | false => simp [tprThresholdOk_of_not_read hread]
  | true =>
    have hord : physOrdinary p (v.ctl.virtualApicPage.toNat + 128) = true := by
      by_contra hnot
      simp [readsDeviceMemory_iff.2 ⟨hread, Bool.eq_false_of_not_eq_true hnot⟩] at hdevice
    rw [tprThresholdOk_of_read hread hord, tprThresholdFits_iff]
    exact ⟨fun h _ => h, fun h => h rfl⟩

theorem physOrdinary_of_not_ram {p : Impl} {a : Nat} (h : p.isRam a = false) : physOrdinary p a = false := by
  rw [physOrdinary, h, Bool.and_false]

/-- The refusal comes before the verdict of any check of steps 2 and 3 is used (log 25). -/
theorem checkVmcs_of_readsDeviceMemory {p : Impl} {s : State} {v : Vmcs} (h : readsDeviceMemory p s.mem v = true) :
    checkVmcs p s v = .refuse .virtualApicPageNotMemory := by
  rw [checkVmcs, if_pos h]

/-- Settles O28: past step 1 the outcome is that of `checkVmcs`, which begins with the read of the page. -/
theorem devicePageIsRefused : Obligations.DevicePageIsRefused := by
  unfold Obligations.DevicePageIsRefused
  intro p kind s v hstep1 hshadow hpage hram
  have hdevice : readsDeviceMemory p s.mem v = true :=
    readsDeviceMemory_iff.2 ⟨readsVirtualApicPage_iff.2 ⟨hshadow, hpage⟩, physOrdinary_of_not_ram hram⟩
  rw [vmEntry, entryOutcome_of_step1 hstep1, checkVmcs_of_readsDeviceMemory hdevice, performOutcome]

/-! ### Every step keeps the invariant -/

/-- `writePhys` lists new bytes in ordinary memory only (20_memory.md R52). -/
theorem listsOrdinaryOnly_writePhys {p : Impl} {m : Memory} (cells : List Host.Cell) (h : listsOrdinaryOnly p m) :
    listsOrdinaryOnly p (writePhys p m cells) := by
  intro c hc
  obtain hnew | hold := Memory.mem_writeCells hc
  · exact (List.mem_filter.1 hnew).2
  · exact h c hold

/-- The invariant is about the two byte stores alone. -/
theorem State.Good.congr {s t : State} (h : s.Good) (hmem : t.mem = s.mem) (hcode : t.code = s.code) : t.Good where
  memWf := hmem ▸ h.memWf
  codeWf := hcode ▸ h.codeWf
  memOrdinary := hmem ▸ h.memOrdinary

/-- Writes to ordinary memory keep the invariant, beside any canonical store of bytes to fetch. -/
theorem State.Good.of_writePhys {s t : State} {cells : List Host.Cell} (h : s.Good)
    (hmem : t.mem = writePhys impl s.mem cells) (hcode : t.code.wf) : t.Good where
  memWf := hmem ▸ wf_writePhys impl cells h.memWf
  codeWf := hcode
  memOrdinary := hmem ▸ listsOrdinaryOnly_writePhys cells h.memOrdinary

section
variable {s t : State}

theorem entryFailsLikeExit_good (cause : FailureCause) (h : s.Good) : (entryFailsLikeExit impl cause s).Good := by
  obtain ⟨-, -, -, hmem, hcode, -⟩ := entryFailsLikeExit_fields impl cause s
  exact h.of_writePhys hmem (hcode ▸ Memory.wf_ofCells _)

theorem loadGuestState_good (h : s.Good) : (loadGuestState impl s).Good := h.congr rfl rfl

theorem loadMsrs_good (ht : loadMsrs impl s = some t) (h : s.Good) : t.Good := by
  obtain ⟨c, rfl | rfl⟩ := loadMsrs_next ht
  · exact h.congr rfl rfl
  · exact h

theorem markLaunched_good (kind : EntryKind) (h : s.Good) : (markLaunched kind s).Good := by
  cases kind with
  | launch => exact h.congr rfl rfl
  | resume => exact h

theorem injectEvent_good (h : s.Good) : (injectEvent impl s).Good := by
  obtain hnone | hevent := injectEvent_cases impl s
  · rw [hnone]
    exact h
  · rw [hevent]
    exact h.of_writePhys rfl h.codeWf

theorem inGuest_good (h : s.Good) : (inGuest impl s).Good where
  memWf := h.memWf
  codeWf := Memory.wf_ofCells _
  memOrdinary := h.memOrdinary

/-- Both the steps into the guest and a failure on the way write ordinary memory only (logs 2, 33). -/
theorem continueEntry_good (kind : EntryKind) (h : s.Good) : (continueEntry impl kind s).Good := by
  obtain ⟨s4, -, hm, hc⟩ | ⟨-, -, hc⟩ | ⟨-, hc⟩ := continueEntry_cases impl kind s
  · rw [hc]
    exact inGuest_good (injectEvent_good (markLaunched_good kind (loadMsrs_good hm (loadGuestState_good h))))
  · rw [hc]
    exact entryFailsLikeExit_good .msrLoad (loadGuestState_good h)
  · rw [hc]
    exact entryFailsLikeExit_good .guestState h

/-- A VM-instruction failure writes neither byte store, and the outcomes past step 2 keep the invariant. -/
theorem vmEntry_good {kind : EntryKind} (ht : vmEntry impl kind s = .next t) (h : s.Good) : t.Good := by
  obtain ⟨-, hf⟩ | ⟨e, -, hf⟩ | ⟨-, rfl⟩ | ⟨-, rfl⟩ := vmEntry_next ht
  · obtain ⟨rip, -, rfl⟩ := vmFailInvalid_next hf
    exact h.congr rfl rfl
  · obtain ⟨rip, -, rfl⟩ := vmFailValid_next hf
    exact h.congr rfl rfl
  · exact entryFailsLikeExit_good .guestState h
  · exact continueEntry_good kind h

end

/-- Settles O8: a step to a next state is a VM entry, which keeps the invariant under every outcome. -/
theorem everyStepKeepsGood : Obligations.EveryStepKeepsGood := by
  unfold Obligations.EveryStepKeepsGood
  intro s t hgood hstep
  obtain ⟨_, kind, -, hentry⟩ := step_next hstep
  exact vmEntry_good hentry hgood

end Sys2Proof.Machine
end

section
/-! Encoding (30_encoding.md): decoder and encoder agree (R56, R59), a prefixed form is refused by its own name (R57), and the
bytes placed where the machine fetches are what the next step decodes (log 27). -/

namespace Sys2Proof.Machine

/-! ### Decoder and encoder -/

theorem encode_length (i : Instr) : (encode i).length = 3 := by
  cases i with
  | vmlaunch => exact Laws.EncodedLength.vmlaunch.2
  | vmresume => exact Laws.EncodedLength.vmresume.2

theorem decode_of_prefix {b : Byte} (bs : List Byte) (h : isPrefixByte b = true) :
    decode (b :: bs) = .error (decodePrefixed bs) := by
  rw [decode, if_pos h]

theorem decode_of_not_prefix {b : Byte} (bs : List Byte) (h : isPrefixByte b = false) :
    decode (b :: bs) = decodePlain (b :: bs) := by
  rw [decode, h, if_neg Bool.false_ne_true]

theorem decodePrefixed_of_prefix {b : Byte} (bs : List Byte) (h : isPrefixByte b = true) :
    decodePrefixed (b :: bs) = decodePrefixed bs := by
  rw [decodePrefixed, if_pos h]

/-- Behind a run of prefix bytes, what decodes without them is the prefixed form (30_encoding.md R57). -/
theorem decodePrefixed_of_decodePlain {b : Byte} {bs : List Byte} {x : Instr × List Byte} (h : isPrefixByte b = false)
    (hx : decodePlain (b :: bs) = .ok x) : decodePrefixed (b :: bs) = .prefixedForm := by
  rw [decodePrefixed, h, if_neg Bool.false_ne_true, hx]

/-- The unprefixed forms are exactly the encodings (30_encoding.md R56). -/
theorem decodePlain_eq_ok_iff {bs rest : List Byte} {i : Instr} :
    decodePlain bs = .ok (i, rest) ↔ bs = encode i ++ rest := by
  constructor
  · intro h
    match bs with
    | [] => cases h
    | [b0] => rw [decodePlain] at h; split at h <;> cases h
    | [b0, b1] => rw [decodePlain] at h; split at h <;> cases h
    | b0 :: b1 :: b2 :: tail =>
      rw [decodePlain] at h
      split at h
      · next hbytes => cases h; exact congrArg (· ++ rest) hbytes
      · split at h
        · next hbytes => cases h; exact congrArg (· ++ rest) hbytes
        · cases h
  · rintro rfl
    cases i with
    | vmlaunch => rfl
    | vmresume => rfl

/-- An encoding begins with a byte that is no prefix (0FH), and is an unprefixed form. -/
theorem encode_append_eq_cons (i : Instr) (rest : List Byte) :
    ∃ b bs, encode i ++ rest = b :: bs ∧ isPrefixByte b = false ∧ decodePlain (b :: bs) = .ok (i, rest) := by
  have hplain : decodePlain (encode i ++ rest) = .ok (i, rest) := decodePlain_eq_ok_iff.2 rfl
  cases i with
  | vmlaunch => exact ⟨0x0F, _, rfl, by decide, hplain⟩
  | vmresume => exact ⟨0x0F, _, rfl, by decide, hplain⟩

theorem decode_encode (i : Instr) (rest : List Byte) : decode (encode i ++ rest) = .ok (i, rest) := by
  obtain ⟨b, bs, hbytes, hb, hplain⟩ := encode_append_eq_cons i rest
  rw [hbytes, decode_of_not_prefix _ hb, hplain]

/-- Settles O2: only bytes that begin with no prefix decode, and those by the unprefixed forms. -/
theorem decodeReadsExactlyTheEncodings : Obligations.DecodeReadsExactlyTheEncodings := by
  unfold Obligations.DecodeReadsExactlyTheEncodings
  intro bs i rest
  constructor
  · intro h
    match bs with
    | [] => cases h
    | b :: tail =>
      cases hb : isPrefixByte b with
      | true => rw [decode_of_prefix tail hb] at h; cases h
      | false => rw [decode_of_not_prefix tail hb] at h; exact decodePlain_eq_ok_iff.1 h
  · rintro rfl
    exact decode_encode i rest

/-! ### Prefixed forms -/

theorem decodePrefixed_encode (i : Instr) (rest : List Byte) : decodePrefixed (encode i ++ rest) = .prefixedForm := by
  obtain ⟨b, bs, hbytes, hb, hplain⟩ := encode_append_eq_cons i rest
  rw [hbytes, decodePrefixed_of_decodePlain hb hplain]

/-- Further prefix bytes do not change what stands behind them. -/
theorem decodePrefixed_append {ps : List Byte} (bs : List Byte) (h : ∀ b ∈ ps, isPrefixByte b = true) :
    decodePrefixed (ps ++ bs) = decodePrefixed bs := by
  induction ps with
  | nil => rfl
  | cons p ps ih =>
    obtain ⟨hp, hps⟩ := List.forall_mem_cons.1 h
    rw [List.cons_append, decodePrefixed_of_prefix _ hp, ih hps]

/-- Settles O3: the first prefix byte makes the decoder look behind the run, where the encoding stands. -/
theorem prefixedFormsAreRefused : Obligations.PrefixedFormsAreRefused := by
  unfold Obligations.PrefixedFormsAreRefused
  intro ps i rest hne hps
  match ps with
  | [] => exact absurd rfl hne
  | p :: ps =>
    obtain ⟨hp, hps⟩ := List.forall_mem_cons.1 hps
    rw [List.cons_append, decode_of_prefix _ hp, decodePrefixed_append _ hps, decodePrefixed_encode]

/-! ### The words of the opcode table -/

theorem tableBytes_vmlaunch : tableBytes 24 0x0F01C2 = encode .vmlaunch := by decide

theorem tableBytes_vmresume : tableBytes 24 0x0F01C3 = encode .vmresume := by decide

theorem decodeTableWord_of_tableBytes {nbits w : Nat} {i : Instr} (h : tableBytes nbits w = encode i) :
    decodeTableWord nbits w = some i := by
  have hdecode : decode (encode i) = .ok (i, []) := List.append_nil (encode i) ▸ decode_encode i []
  rw [decodeTableWord, h, hdecode]

/-- Settles O1: the words are encodings, the form behind 66H is a prefixed one, and the neighbours are closed facts. -/
theorem tableWordsDecode : Obligations.TableWordsDecode := by
  refine ⟨decodeTableWord_of_tableBytes tableBytes_vmlaunch, decodeTableWord_of_tableBytes tableBytes_vmresume,
    decode_encode .vmlaunch [], decode_encode .vmresume [], ?vmcall, ?vmxoff, ?operandSize⟩
  case vmcall => decide
  case vmxoff => decide
  case operandSize => exact prefixedFormsAreRefused [0x66] .vmlaunch [] (by decide) (by decide)

/-! ### Fetching and the step -/

theorem step_of_decode_ok {s : State} {i : Instr} {rest : List Byte} (h : decode (fetch s) = .ok (i, rest)) :
    step s = exec i s := by
  rw [step, h]

theorem step_of_decode_error {s : State} {e : DecodeError} (h : decode (fetch s) = .error e) :
    step s = .refused (refusalOf e) := by
  rw [step, h]

/-- Settles O4: one equation of `step` per answer of the decoder. -/
theorem stepRunsTheDecodedInstruction : Obligations.StepRunsTheDecodedInstruction :=
  ⟨fun _ _ _ h => step_of_decode_ok h, fun _ _ h => step_of_decode_error h⟩

theorem knownBytes_succ_of_read {code : Memory} {a : Nat} {b : Byte} (n : Nat) (h : code.read a = some b) :
    knownBytes code (n + 1) a = b :: knownBytes code n (a + 1) := by
  rw [knownBytes, h]

/-- From the address where bytes were written up, those bytes are known first. -/
theorem knownBytes_writeBytes (m : Memory) (a n : Nat) (bs : List Byte) :
    knownBytes (m.writeBytes a bs) (bs.length + n) a
      = bs ++ knownBytes (m.writeBytes a bs) n (a + bs.length) := by
  induction bs generalizing m a with
  | nil => rw [List.length_nil, Nat.zero_add, Nat.add_zero, List.nil_append]
  | cons b bs ih =>
    have hread : (m.writeBytes a (b :: bs)).read a = some b := Memory.read_writeBytes (k := 0) (by simp)
    rw [List.length_cons, Nat.succ_add, knownBytes_succ_of_read _ hread, Memory.writeBytes, ih, List.cons_append,
      Nat.add_assoc, Nat.add_comm 1]

/-- Placed bytes are fetched first, where they are no more than the 15 that are fetched. -/
theorem fetch_placeBytes (s : State) {bs : List Byte} (h : bs.length ≤ 15) :
    ∃ rest, fetch (placeBytes s bs) = bs ++ rest := by
  obtain ⟨n, hn⟩ := Nat.exists_eq_add_of_le h
  rw [fetch, placeBytes, State.setCode_code, State.setCode_cpu, hn]
  exact ⟨_, knownBytes_writeBytes s.code s.cpu.rip.toNat n bs⟩

/-- An instruction's word, placed where the machine fetches, is decoded back to it. -/
theorem step_withFetchWord {nbits w : Nat} {i : Instr} (h : tableBytes nbits w = encode i) (s : State) :
    step (s.withFetchWord nbits w) = exec i (s.withFetchWord nbits w) := by
  have hlen : (encode i).length ≤ 15 := by rw [encode_length]; decide
  obtain ⟨rest, hfetch⟩ := fetch_placeBytes s hlen
  refine step_of_decode_ok (rest := rest) ?_
  rw [State.withFetchWord, h, hfetch, decode_encode]

/-- Settles O5: both words are encodings, and placing one is `setCode`. -/
theorem placedWordIsRunNext : Obligations.PlacedWordIsRunNext := by
  unfold Obligations.PlacedWordIsRunNext
  exact ⟨step_withFetchWord tableBytes_vmlaunch, step_withFetchWord tableBytes_vmresume, fun _ _ _ => rfl⟩

end Sys2Proof.Machine
end

section
/-! The VM-entry sequence (40_vm_entry_sequence.md): what the two VM-instruction failures change and leave (R66, R67), which
number step 2 reports (R63, R70), what a failure like a VM exit (R68) and a completed entry (R60, R72 to R74) leave, and what
follows for every step and every run. -/

namespace Sys2Proof.Machine

/-! ### Step 1 -/

section
variable {s : State} {kind : EntryKind} {v : Vmcs}

theorem State.PassesStep1.root (h : s.PassesStep1 kind v) : s.vmxMode = .root := by
  obtain ⟨hroot, -⟩ := h
  exact hroot

theorem State.PassesStep1.vmcs (h : s.PassesStep1 kind v) : s.currentVmcs = some v := by
  obtain ⟨-, -, -, hv, -⟩ := h
  exact hv

theorem State.PassesStep1.needs (h : s.PassesStep1 kind v) : v.launchState = kind.needs := by
  obtain ⟨-, -, -, -, -, hl⟩ := h
  exact hl

end

/-! ### VM-instruction failures -/

/-- To know the bits of a word outside the status flags it is enough to know those of its 64 bits. -/
theorem getLsbD_outside_positions {x : Word64} (h : ∀ k < 64, k ∉ statusFlagPositions → x.getLsbD k = false) :
    ∀ k, k ∉ statusFlagPositions → x.getLsbD k = false := by
  intro k hk
  by_cases hlt : k < 64
  · exact h k hlt hk
  · exact BitVec.getLsbD_of_ge x k (not_lt.1 hlt)

theorem statusFlags_outside_positions : ∀ k, k ∉ statusFlagPositions → statusFlags.getLsbD k = false :=
  getLsbD_outside_positions (by decide)

theorem flagCF_outside_positions : ∀ k, k ∉ statusFlagPositions → flagCF.getLsbD k = false :=
  getLsbD_outside_positions (by decide)

theorem flagZF_outside_positions : ∀ k, k ∉ statusFlagPositions → flagZF.getLsbD k = false :=
  getLsbD_outside_positions (by decide)

/-- What both failures share, for a `flag` that is one of the status flags. -/
theorem failToNext_passesToNext {s : State} {flag rip : Word64} (hrip : nextRip impl s.cpu = some rip)
    (hflag : ∀ k, k ∉ statusFlagPositions → flag.getLsbD k = false) :
    PassesToNext s (failToNext impl flag rip s) where
  rip := nextRip_eq hrip
  rflags k hk := failureFlags_outside (statusFlags_outside_positions k hk) (hflag k hk)
  cpu := rfl
  vmxMode := rfl
  monitor := rfl
  mem _ := rfl
  code := rfl

/-- The VMCS is none of what `PassesToNext` speaks of. -/
theorem PassesToNext.mapVmcs {s t : State} (h : PassesToNext s t) (f : Vmcs → Vmcs) : PassesToNext s (t.mapVmcs f) where
  rip := h.rip
  rflags := h.rflags
  cpu := h.cpu
  vmxMode := h.vmxMode
  monitor := h.monitor
  mem := h.mem
  code := h.code

theorem vmFailInvalid_failsInvalid {s t : State} (hv : s.currentVmcs = none) (h : vmFailInvalid impl s = .next t) :
    FailsInvalid s t := by
  obtain ⟨rip, hrip, rfl⟩ := vmFailInvalid_next h
  exact ⟨failToNext_passesToNext hrip flagCF_outside_positions, failureFlags_flag (by decide), hv⟩

/-- A change of the current VMCS, where there is one. -/
theorem State.mapVmcs_of_vmcs {s : State} {v : Vmcs} (hv : s.currentVmcs = some v) (f : Vmcs → Vmcs) :
    (s.mapVmcs f).currentVmcs = some (f v) := by
  rw [State.mapVmcs_currentVmcs, hv, Option.map_some]

/-- `VMfailValid` writes of the VMCS the error field alone, under every implementation. -/
theorem vmFailValid_currentVmcs {p : Impl} {e : Word32} {s t : State} {v : Vmcs} (hv : s.currentVmcs = some v)
    (h : vmFailValid p e s = .next t) : t.currentVmcs = some { v with vmInstructionError := e } := by
  obtain ⟨rip, -, rfl⟩ := vmFailValid_next h
  exact State.mapVmcs_of_vmcs (s := failToNext p flagZF rip s) hv _

theorem vmFailValid_failsValid {e : Word32} {s t : State} {v : Vmcs} (hv : s.currentVmcs = some v)
    (h : vmFailValid impl e s = .next t) : FailsValid e v s t := by
  have hvmcs := vmFailValid_currentVmcs hv h
  obtain ⟨rip, hrip, rfl⟩ := vmFailValid_next h
  exact ⟨(failToNext_passesToNext hrip flagZF_outside_positions).mapVmcs _, failureFlags_flag (by decide), hvmcs⟩

/-- Settles O18: each outcome with a next state is its own failure, whose frame is known. -/
theorem vmFailuresChangeNothingElse : Obligations.VmFailuresChangeNothingElse := by
  unfold Obligations.VmFailuresChangeNothingElse
  intro i s t h
  rw [exec_eq_vmEntry] at h
  constructor
  · intro ho
    exact vmFailInvalid_failsInvalid (entryOutcome_vmFailInvalid ho) (vmEntry_of_vmFailInvalid ho ▸ h)
  · intro e v ho hv
    exact vmFailValid_failsValid hv (vmEntry_of_vmFailValid ho ▸ h)

/-! ### The number that step 2 reports -/

section
variable {p : Impl} {kind : EntryKind} {s : State} {v : Vmcs} {e : Word32}

/-- The set `E` of step 2: a class contributes its number for a failed check of its own or of §4.2.5
(40_vm_entry_sequence.md R63, 43_host_state_checks.md R138). -/
theorem mem_step2Errors_iff : e ∈ step2Errors p s v ↔
    (e = p.errEntryCtrl ∧ (controlChecksPass p s.mem v = false ∨ addrSpaceChecksPass p s.cpu.lma v = false))
      ∨ (e = p.errEntryHost ∧ (hostChecksPass p v = false ∨ addrSpaceChecksPass p s.cpu.lma v = false)) := by
  simp only [step2Errors, List.mem_append, List.mem_ite_nil_left, List.mem_singleton, Bool.not_eq_true,
    Bool.and_eq_false_iff, and_comm]

/-- The checks on the VMCS report a number only from the set `E`. -/
theorem checkVmcs_vmFailValid_mem (h : checkVmcs p s v = .vmFailValid e) : e ∈ step2Errors p s v := by
  unfold checkVmcs at h
  split at h
  · cases h
  · split at h
    · next hchosen =>
      injection h with h
      exact h ▸ chooseError_mem hchosen
    · split at h <;> cases h

/-- Where `E` has one member, it is the number reported. -/
theorem checkVmcs_of_step2Errors_singleton (hordinary : readsDeviceMemory p s.mem v = false)
    (hE : step2Errors p s v = [e]) : checkVmcs p s v = .vmFailValid e := by
  simp [checkVmcs, hordinary, hE, chooseError]

theorem step2Errors_of_control_failure (hcontrol : controlChecksPass p s.mem v = false)
    (hhost : hostChecksPass p v = true) (haddr : addrSpaceChecksPass p s.cpu.lma v = true) :
    step2Errors p s v = [p.errEntryCtrl] := by
  simp [step2Errors, hcontrol, hhost, haddr]

theorem step2Errors_of_host_failure (hcontrol : controlChecksPass p s.mem v = true)
    (hhost : hostChecksPass p v = false) (haddr : addrSpaceChecksPass p s.cpu.lma v = true) :
    step2Errors p s v = [p.errEntryHost] := by
  simp [step2Errors, hcontrol, hhost, haddr]

end

/-- Settles O39: past step 1 a number comes from the set `E` alone, whatever the numbers are. -/
theorem reportedErrorIsJustified : Obligations.ReportedErrorIsJustified := by
  unfold Obligations.ReportedErrorIsJustified
  intro p kind s v e _ h1 ho
  rw [entryOutcome_of_step1 h1] at ho
  exact mem_step2Errors_iff.1 (checkVmcs_vmFailValid_mem ho)

/-- Where the next instruction lies in range, it is the one that `nextRip` gives. -/
theorem nextRip_of_nextInRange {s : State} (h : s.NextInRange) :
    nextRip impl s.cpu = some (s.cpu.rip + BitVec.ofNat 64 impl.insnLen) := by
  rw [nextRip, if_pos ((ripFits_iff_nextInRange s).2 h)]

theorem vmFailValid_of_nextInRange {s : State} (e : Word32) (h : s.NextInRange) : ∃ t, vmFailValid impl e s = .next t :=
  ⟨_, by rw [vmFailValid, nextRip_of_nextInRange h]⟩

/-- A number that the checks on the VMCS report ends either instruction as `VMfailValid` with that number. -/
theorem exec_failsValid_of_checkVmcs {i : Instr} {s : State} {v : Vmcs} {e : Word32} (h1 : s.PassesStep1 (kindOf i) v)
    (hrange : s.NextInRange) (h : checkVmcs impl s v = .vmFailValid e) :
    ∃ t, exec i s = .next t ∧ FailsValid e v s t := by
  have ho : entryOutcome impl (kindOf i) s = .vmFailValid e := (entryOutcome_of_step1 h1).trans h
  obtain ⟨t, ht⟩ := vmFailValid_of_nextInRange e hrange
  exact ⟨t, by rw [exec_eq_vmEntry, vmEntry_of_vmFailValid ho, ht], vmFailValid_failsValid h1.vmcs ht⟩

/-- Settles O36: `E` holds the control number alone. -/
theorem controlFailureReportsItsClass : Obligations.ControlFailureReportsItsClass := by
  unfold Obligations.ControlFailureReportsItsClass
  intro i s v h1 hrange hordinary hcontrol hhost haddr
  exact exec_failsValid_of_checkVmcs h1 hrange
    (checkVmcs_of_step2Errors_singleton hordinary (step2Errors_of_control_failure hcontrol hhost haddr))

/-- Settles O37: `E` holds the host number alone. -/
theorem hostFailureReportsItsClass : Obligations.HostFailureReportsItsClass := by
  unfold Obligations.HostFailureReportsItsClass
  intro i s v h1 hrange hordinary hcontrol hhost haddr
  exact exec_failsValid_of_checkVmcs h1 hrange
    (checkVmcs_of_step2Errors_singleton hordinary (step2Errors_of_host_failure hcontrol hhost haddr))

/-- Settles O38: some number of `E` is reported, and `E` holds no other than the two. -/
theorem anyStep2FailureFailsValid : Obligations.AnyStep2FailureFailsValid := by
  unfold Obligations.AnyStep2FailureFailsValid
  intro i s v h1 hrange hordinary hfail
  obtain ⟨e, he⟩ := checkVmcs_of_step2_failure hordinary hfail
  have hmem : e ∈ [impl.errEntryCtrl, impl.errEntryHost] := by
    obtain ⟨rfl, -⟩ | ⟨rfl, -⟩ := mem_step2Errors_iff.1 (checkVmcs_vmFailValid_mem he)
    · exact List.mem_cons_self
    · exact List.mem_cons_of_mem _ List.mem_cons_self
  obtain ⟨t, ht, hfails⟩ := exec_failsValid_of_checkVmcs h1 hrange he
  exact ⟨e, t, hmem, ht, hfails⟩

/-! ### Loads and writes on the way past step 2 -/

/-- Of the old processor state a load keeps CR0.NW and CR0.CD alone. -/
theorem keepCacheBits_congr {old old' : Processor} (new : Processor)
    (h : old.cr0 &&& cr0CacheBits = old'.cr0 &&& cr0CacheBits) : old.keepCacheBits new = old'.keepCacheBits new := by
  rw [Processor.keepCacheBits, Processor.keepCacheBits, h]

/-- Writing bytes leaves every other address as it was. -/
theorem Memory.read_writeCells_outside {m : Memory} {cells : List Host.Cell} {a : Nat} (h : a ∉ cells.map (·.1)) :
    (m.writeCells cells).read a = m.read a := by
  induction cells generalizing m with
  | nil => rfl
  | cons c rest ih =>
    rw [List.map_cons, List.mem_cons, not_or] at h
    obtain ⟨hne, hrest⟩ := h
    rw [Memory.writeCells, ih hrest, Memory.read_write_other _ _ hne]

theorem read_writePhys_outside {p : Impl} {m : Memory} {cells : List Host.Cell} {a : Nat} (h : a ∉ cells.map (·.1)) :
    (writePhys p m cells).read a = m.read a :=
  Memory.read_writeCells_outside fun ha => h ((List.filter_sublist.map _).subset ha)

/-- A failure like a VM exit in a state `u` that differs from the start of the entry in loaded processor state only. -/
theorem entryFailsLikeExit_failsLikeExit (p : Impl) (cause : FailureCause) {s u : State} {v : Vmcs}
    (hv : u.currentVmcs = some v) (hroot : u.vmxMode = .root) (hmem : u.mem = s.mem)
    (hcr0 : u.cpu.cr0 &&& cr0CacheBits = s.cpu.cr0 &&& cr0CacheBits) :
    FailsLikeExit p cause u v s (entryFailsLikeExit p cause u) := by
  obtain ⟨hcpu', hroot', hvmcs', hmem', -⟩ := entryFailsLikeExit_fields p cause u
  exact {
    vmcs := by rw [hvmcs', hv, Option.map_some, Vmcs.setExitInfo]
    root := hroot'.trans hroot
    cpu := hcpu'.trans (keepCacheBits_congr _ hcr0)
    mem := fun a ha => by rw [hmem', read_writePhys_outside ha, hmem] }

/-! ### The outcome past steps 1 and 2 -/

/-- Past steps 1 and 2 the guest checks of step 3 decide. -/
theorem entryOutcome_of_step2 {p : Impl} {kind : EntryKind} {s : State} {v : Vmcs} (h1 : s.PassesStep1 kind v)
    (h2 : PassesStep2 p s v) : entryOutcome p kind s =
      if guestRegisterChecksPass p v && guestSegmentChecksPass p s v then .checksPassed else .entryFailsLikeExit := by
  have hE : step2Errors p s v = [] := step2Errors_eq_nil_iff.2 (by rw [h2.controls, h2.host, h2.addrSpace]; rfl)
  rw [entryOutcome_of_step1 h1, checkVmcs, h2.ordinary, hE]
  rfl

theorem vmEntry_of_entryFailsLikeExit {p : Impl} {kind : EntryKind} {s : State}
    (h : entryOutcome p kind s = .entryFailsLikeExit) : vmEntry p kind s = .next (entryFailsLikeExit p .guestState s) := by
  rw [vmEntry, h, performOutcome]

theorem vmEntry_of_checksPassed {p : Impl} {kind : EntryKind} {s : State}
    (h : entryOutcome p kind s = .checksPassed) : vmEntry p kind s = .next (continueEntry p kind s) := by
  rw [vmEntry, h, performOutcome]

/-- Settles O42: the outcome is the failure like a VM exit, taken in the state in which the entry began. -/
theorem guestCheckFailureIsLikeExit : Obligations.GuestCheckFailureIsLikeExit := by
  unfold Obligations.GuestCheckFailureIsLikeExit
  intro i s v h1 h2 hguest
  have ho : entryOutcome impl (kindOf i) s = .entryFailsLikeExit := by
    rw [entryOutcome_of_step2 h1 h2, hguest]
    rfl
  exact ⟨_, by rw [exec_eq_vmEntry, vmEntry_of_entryFailsLikeExit ho],
    entryFailsLikeExit_failsLikeExit impl .guestState h1.vmcs h1.root rfl rfl⟩

/-! ### Steps 3 to 6 of a completed entry -/

section
variable {p : Impl} {kind : EntryKind} {s s4 t : State} {v : Vmcs}

/-- With a current VMCS its own controls say what step 4 and step 6 do. -/
theorem currentControl_of_vmcs (hv : s.currentVmcs = some v) (f : Controls → Bool) : currentControl s f = f v.ctl := by
  rw [currentControl, hv, Option.any_some]

/-- An empty MSR-load area: nothing is loaded (40_vm_entry_sequence.md R74). -/
theorem loadMsrs_of_count_zero (hv : s.currentVmcs = some v) (hcount : v.ctl.entryMsrLoad.count = 0) :
    loadMsrs p s = some s := by
  rw [loadMsrs, currentControl_of_vmcs hv, hcount]
  rfl

theorem loadMsrs_of_count_ne_zero (hv : s.currentVmcs = some v) (hcount : v.ctl.entryMsrLoad.count ≠ 0) :
    loadMsrs p s = (p.msrLoad s).map s.loadCpu := by
  rw [loadMsrs, currentControl_of_vmcs hv, if_pos (bne_iff_ne.2 hcount)]

/-- Steps 3 (b), 3 (c) and 4 load processor state with CR0.NW and CR0.CD kept, clear monitoring, and leave the VMCS and
memory (40_vm_entry_sequence.md R60, 70_reset_and_hazards.md R268). -/
theorem loadMsrs_loadGuestState_fields (h : loadMsrs p (loadGuestState p s) = some s4) :
    s4.currentVmcs = s.currentVmcs ∧ s4.monitorArmed = false ∧ s4.mem = s.mem
      ∧ s4.cpu.cr0 &&& cr0CacheBits = s.cpu.cr0 &&& cr0CacheBits := by
  have hguest : (loadGuestState p s).cpu.cr0 &&& cr0CacheBits = s.cpu.cr0 &&& cr0CacheBits := keepCacheBits_cacheBits _ _
  obtain ⟨c, rfl | rfl⟩ := loadMsrs_next h
  · exact ⟨rfl, rfl, rfl, (keepCacheBits_cacheBits _ _).trans hguest⟩
  · exact ⟨rfl, rfl, rfl, hguest⟩

/-- Step 5 changes nothing outside the VMCS. -/
theorem markLaunched_fields (kind : EntryKind) (s : State) :
    (markLaunched kind s).cpu = s.cpu ∧ (markLaunched kind s).monitorArmed = s.monitorArmed
      ∧ (markLaunched kind s).mem = s.mem ∧ (markLaunched kind s).draws = s.draws := by
  cases kind with
  | launch => exact ⟨rfl, rfl, rfl, rfl⟩
  | resume => exact ⟨rfl, rfl, rfl, rfl⟩

/-- Step 5 leaves a VMCS launched whose launch state step 1 let pass (40_vm_entry_sequence.md R72). -/
theorem markLaunched_currentVmcs (hv : s.currentVmcs = some v) (hl : v.launchState = kind.needs) :
    (markLaunched kind s).currentVmcs = some { v with launchState := .launched } := by
  cases kind with
  | launch => exact State.mapVmcs_of_vmcs hv _
  | resume => rw [markLaunched, hv, ← show v.launchState = .launched from hl]

/-- Step 6 without an event (40_vm_entry_sequence.md R73). -/
theorem injectEvent_of_invalid (hv : s.currentVmcs = some v) (hinfo : infoValid v.ctl.entryIntInfo = false) :
    injectEvent p s = s := by
  rw [injectEvent, currentControl_of_vmcs hv, hinfo]
  rfl

/-- Step 6 with an event. -/
theorem injectEvent_of_valid (hv : s.currentVmcs = some v) (hinfo : infoValid v.ctl.entryIntInfo = true) :
    injectEvent p s = ((s.loadCpu (p.inject s).cpu).setMem (writePhys p s.mem (p.inject s).writes)).mapVmcs
      (·.setIntInfo (p.inject s).intInfo) := by
  rw [injectEvent, currentControl_of_vmcs hv, if_pos hinfo]

/-- Once step 4 has succeeded, the event of step 6 is injected in the state after step 5. -/
theorem eventInjection_of_loadMsrs (hm : loadMsrs p (loadGuestState p s) = some s4) :
    eventInjection p kind s = some (p.inject (markLaunched kind s4)) := by
  rw [eventInjection, hm, Option.map_some]

theorem eventWrites_of_loadMsrs (hm : loadMsrs p (loadGuestState p s) = some s4) :
    eventWrites p kind s = (p.inject (markLaunched kind s4)).writes := by
  rw [eventWrites, eventInjection_of_loadMsrs hm, Option.map_some, Option.getD_some]

/-- A successful step 4 is followed by an entered guest, with and without an event. -/
theorem inGuest_entersGuest (hv : s.currentVmcs = some v) (hl : v.launchState = kind.needs)
    (hm : loadMsrs p (loadGuestState p s) = some s4) :
    EntersGuest p kind v s (inGuest p (injectEvent p (markLaunched kind s4))) := by
  obtain ⟨hvmcs4, hmonitor4, hmem4, hcr04⟩ := loadMsrs_loadGuestState_fields hm
  obtain ⟨hcpu5, hmonitor5, hmem5, -⟩ := markLaunched_fields kind s4
  have hvmcs5 := markLaunched_currentVmcs (hvmcs4.trans hv) hl
  have hcr05 : (markLaunched kind s4).cpu.cr0 &&& cr0CacheBits = s.cpu.cr0 &&& cr0CacheBits := by rw [hcpu5, hcr04]
  cases hinfo : infoValid v.ctl.entryIntInfo with
  | false =>
    rw [injectEvent_of_invalid hvmcs5 hinfo]
    exact {
      nonRoot := rfl
      monitor := hmonitor5.trans hmonitor4
      vmcs := ⟨v.ctl.entryIntInfo, hvmcs5, fun _ => rfl, fun h => absurd (hinfo.symm.trans h) Bool.false_ne_true⟩
      cpu := fun _ hcount => by
        obtain rfl : loadGuestState p s = s4 :=
          Option.some.inj ((loadMsrs_of_count_zero (s := loadGuestState p s) hv hcount).symm.trans hm)
        exact hcpu5
      mem := fun a _ => by
        show (markLaunched kind s4).mem.read a = s.mem.read a
        rw [hmem5, hmem4]
      cacheBits := hcr05 }
  | true =>
    rw [injectEvent_of_valid hvmcs5 hinfo]
    exact {
      nonRoot := rfl
      monitor := hmonitor5.trans hmonitor4
      vmcs := ⟨(p.inject (markLaunched kind s4)).intInfo, State.mapVmcs_of_vmcs hvmcs5 _,
        fun h => absurd (h.symm.trans hinfo) Bool.false_ne_true,
        fun _ => by rw [eventInjection_of_loadMsrs hm, Option.map_some]⟩
      cpu := fun h => absurd (h.symm.trans hinfo) Bool.false_ne_true
      mem := fun a ha => by
        refine (read_writePhys_outside (eventWrites_of_loadMsrs hm ▸ ha hinfo)).trans ?_
        rw [hmem5, hmem4]
      cacheBits := (keepCacheBits_cacheBits _ _).trans hcr05 }

/-! ### What follows `ChecksPassed` -/

/-- The lost guest checks and the MSR load succeed: the guest is entered (40_vm_entry_sequence.md R60). -/
theorem continueEntry_entersGuest (h1 : s.PassesStep1 kind v) (hlost : p.lostGuestChecksPass s = true)
    (hm : loadMsrs p (loadGuestState p s) = some s4) : EntersGuest p kind v s (continueEntry p kind s) := by
  rw [continueEntry, if_pos hlost, hm]
  exact inGuest_entersGuest h1.vmcs h1.needs hm

/-- The MSR load fails: a failure like a VM exit, taken after the load of guest state (40_vm_entry_sequence.md R74). -/
theorem continueEntry_failsLikeExit_msrLoad (h1 : s.PassesStep1 kind v) (hlost : p.lostGuestChecksPass s = true)
    (hm : loadMsrs p (loadGuestState p s) = none) :
    FailsLikeExit p .msrLoad (loadGuestState p s) v s (continueEntry p kind s) := by
  rw [continueEntry, if_pos hlost, hm]
  exact entryFailsLikeExit_failsLikeExit p .msrLoad h1.vmcs h1.root rfl (keepCacheBits_cacheBits _ _)

/-- The lost guest checks fail: a failure like a VM exit (40_vm_entry_sequence.md R68). -/
theorem continueEntry_failsLikeExit_guestState (h1 : s.PassesStep1 kind v) (hlost : p.lostGuestChecksPass s = false) :
    FailsLikeExit p .guestState s v s (continueEntry p kind s) := by
  rw [continueEntry, hlost]
  exact entryFailsLikeExit_failsLikeExit p .guestState h1.vmcs h1.root rfl rfl

/-- Past every surviving check the entry goes on. -/
theorem vmEntry_of_passing_checks (h1 : s.PassesStep1 kind v) (h2 : PassesStep2 p s v)
    (hreg : guestRegisterChecksPass p v = true) (hseg : guestSegmentChecksPass p s v = true) :
    vmEntry p kind s = .next (continueEntry p kind s) := by
  refine vmEntry_of_checksPassed ?_
  rw [entryOutcome_of_step2 h1 h2, hreg, hseg]
  rfl

end

/-- Settles O50: one frame per branch of what follows `ChecksPassed`. -/
theorem passingEntryCompletes : Obligations.PassingEntryCompletes := by
  unfold Obligations.PassingEntryCompletes
  intro i s v h1 h2 hreg hseg
  refine ⟨_, by rw [exec_eq_vmEntry, vmEntry_of_passing_checks h1 h2 hreg hseg], ?_⟩
  cases hlost : impl.lostGuestChecksPass s with
  | false => exact continueEntry_failsLikeExit_guestState h1 hlost
  | true =>
    cases hm : loadMsrs impl (loadGuestState impl s) with
    | none => exact continueEntry_failsLikeExit_msrLoad h1 hlost hm
    | some s4 => exact continueEntry_entersGuest h1 hlost hm

/-- Settles O51: with an empty MSR-load area the load succeeds by itself, otherwise by the hypothesis. -/
theorem guestIsEnteredUnderEveryImplementation : Obligations.GuestIsEnteredUnderEveryImplementation := by
  unfold Obligations.GuestIsEnteredUnderEveryImplementation
  intro p kind s v h1 h2 hreg hseg hlost hmsrs
  have hv : (loadGuestState p s).currentVmcs = some v := h1.vmcs
  have hload : ∃ s4, loadMsrs p (loadGuestState p s) = some s4 := by
    by_cases hcount : v.ctl.entryMsrLoad.count = 0
    · exact ⟨_, loadMsrs_of_count_zero hv hcount⟩
    · obtain ⟨c, hc⟩ := Option.isSome_iff_exists.1 (hmsrs hcount)
      exact ⟨_, by rw [loadMsrs_of_count_ne_zero hv hcount, hc, Option.map_some]⟩
  obtain ⟨s4, hm⟩ := hload
  exact ⟨_, vmEntry_of_passing_checks h1 h2 hreg hseg, continueEntry_entersGuest h1 hlost hm⟩

/-! ### What a VM entry that gives a next state has done -/

section
variable {p : Impl} {kind : EntryKind} {s t : State} {v : Vmcs}

/-- A number is reported on a current VMCS: by a check of step 1, or by the checks on the VMCS. -/
theorem entryOutcome_vmFailValid {e : Word32} (h : entryOutcome p kind s = .vmFailValid e) :
    ∃ v, s.currentVmcs = some v
      ∧ (e = p.errMovss ∨ e = launchStateError p kind ∨ checkVmcs p s v = .vmFailValid e) := by
  obtain ⟨hroot, hmode, hcpl⟩ :=
    entryOutcome_privileged (by rw [h]; nofun) (by rw [h]; nofun) (by rw [h]; nofun)
  cases hv : s.currentVmcs with
  | none =>
    rw [entryOutcome_of_no_vmcs hroot hmode hcpl hv] at h
    cases h
  | some v =>
    refine ⟨v, rfl, ?_⟩
    cases hss : s.movssBlocking with
    | true =>
      rw [entryOutcome_of_movss hroot hmode hcpl hv hss] at h
      injection h with h
      exact .inl h.symm
    | false =>
      by_cases hl : v.launchState = kind.needs
      · rw [entryOutcome_of_step1 ⟨hroot, hmode, hcpl, hv, hss, hl⟩] at h
        exact .inr (.inr h)
      · rw [entryOutcome_of_wrong_launchState hroot hmode hcpl hv hss hl] at h
        injection h with h
        exact .inr (.inl h.symm)

/-- Every number reported is one of the five (41_basic_checks.md R87). -/
theorem entryOutcome_vmFailValid_mem {e : Word32} (h : entryOutcome p kind s = .vmFailValid e) : e ∈ p.errorNumbers := by
  obtain ⟨v, -, rfl | rfl | hcheck⟩ := entryOutcome_vmFailValid h
  · simp [Impl.errorNumbers]
  · cases kind <;> simp [Impl.errorNumbers, launchStateError]
  · obtain ⟨rfl, -⟩ | ⟨rfl, -⟩ := mem_step2Errors_iff.1 (checkVmcs_vmFailValid_mem hcheck)
    · simp [Impl.errorNumbers]
    · simp [Impl.errorNumbers]

/-- The four ways in which a VM entry gives a next state, with the current VMCS that each one is about. -/
theorem vmEntry_next_cases (h : vmEntry p kind s = .next t) :
    (s.currentVmcs = none ∧ vmFailInvalid p s = .next t)
      ∨ (∃ e v, entryOutcome p kind s = .vmFailValid e ∧ s.currentVmcs = some v ∧ vmFailValid p e s = .next t)
      ∨ (∃ cause u v, s.currentVmcs = some v ∧ FailsLikeExit p cause u v s t)
      ∨ ∃ v, s.PassesStep1 kind v ∧ checkVmcs p s v = .checksPassed ∧ p.lostGuestChecksPass s = true
          ∧ EntersGuest p kind v s t := by
  obtain ⟨ho, hf⟩ | ⟨e, ho, hf⟩ | ⟨ho, rfl⟩ | ⟨ho, rfl⟩ := vmEntry_next h
  · exact .inl ⟨entryOutcome_vmFailInvalid ho, hf⟩
  · obtain ⟨v, hv, -⟩ := entryOutcome_vmFailValid ho
    exact .inr (.inl ⟨e, v, ho, hv, hf⟩)
  · obtain ⟨v, h1, -⟩ := entryOutcome_passed (.inr ho)
    exact .inr (.inr (.inl
      ⟨_, _, v, h1.vmcs, entryFailsLikeExit_failsLikeExit p .guestState h1.vmcs h1.root rfl rfl⟩))
  · obtain ⟨v, h1, hcheck⟩ := entryOutcome_passed (.inl ho)
    cases hlost : p.lostGuestChecksPass s with
    | false => exact .inr (.inr (.inl ⟨_, _, v, h1.vmcs, continueEntry_failsLikeExit_guestState h1 hlost⟩))
    | true =>
      cases hm : loadMsrs p (loadGuestState p s) with
      | none => exact .inr (.inr (.inl ⟨_, _, v, h1.vmcs, continueEntry_failsLikeExit_msrLoad h1 hlost hm⟩))
      | some s4 => exact .inr (.inr (.inr ⟨v, h1, hcheck.trans ho, rfl, continueEntry_entersGuest h1 hlost hm⟩))

/-- A VMCS that replaces the current one with the same launch state keeps the launch state. -/
theorem State.launchState_of_vmcs {v' : Vmcs} (hv : s.currentVmcs = some v) (ht : t.currentVmcs = some v')
    (h : v'.launchState = v.launchState) : t.launchState = s.launchState := by
  rw [State.launchState, State.launchState, hv, ht, Option.map_some, Option.map_some, h]

/-- A VMCS that replaces the current one with the same error field keeps the error field. -/
theorem State.errorField_of_vmcs {v' : Vmcs} (hv : s.currentVmcs = some v) (ht : t.currentVmcs = some v')
    (h : v'.vmInstructionError = v.vmInstructionError) : t.errorField = s.errorField := by
  rw [State.errorField, State.errorField, hv, ht, Option.map_some, Option.map_some, h]

/-- A completed entry leaves the VMCS launched (40_vm_entry_sequence.md R72). -/
theorem EntersGuest.launchState (h : EntersGuest p kind v s t) : t.launchState = some .launched := by
  obtain ⟨info, hvmcs, -⟩ := h.vmcs
  rw [State.launchState, hvmcs, Option.map_some]

/-- `VMfailInvalid` writes no VMCS and keeps the VMX operation. -/
theorem vmFailInvalid_fields (h : vmFailInvalid p s = .next t) :
    t.currentVmcs = s.currentVmcs ∧ t.vmxMode = s.vmxMode := by
  obtain ⟨rip, -, rfl⟩ := vmFailInvalid_next h
  exact ⟨rfl, rfl⟩

theorem vmFailValid_vmxMode {e : Word32} (h : vmFailValid p e s = .next t) : t.vmxMode = s.vmxMode := by
  obtain ⟨rip, -, rfl⟩ := vmFailValid_next h
  rfl

/-- A VM entry that gives a next state starts in VMX root operation (10_state.md R19). -/
theorem vmEntry_root (h : vmEntry p kind s = .next t) : s.vmxMode = .root := by
  obtain ⟨hud, hgp, href⟩ := entryOutcome_of_vmEntry_next h
  obtain ⟨hroot, -⟩ := entryOutcome_privileged hud hgp (href _)
  exact hroot

/-- Only a completed entry leaves VMX root operation (40_vm_entry_sequence.md R60). -/
theorem vmEntry_nonRoot (h : vmEntry p kind s = .next t) (hnon : t.vmxMode = .nonRoot) :
    ∃ v, s.PassesStep1 kind v ∧ checkVmcs p s v = .checksPassed ∧ p.lostGuestChecksPass s = true
      ∧ EntersGuest p kind v s t := by
  have hroot := vmEntry_root h
  obtain ⟨-, hf⟩ | ⟨e, v, -, -, hf⟩ | ⟨cause, u, v, -, hf⟩ | hguest := vmEntry_next_cases h
  · obtain ⟨-, hmode⟩ := vmFailInvalid_fields hf
    rw [hmode, hroot] at hnon
    cases hnon
  · rw [vmFailValid_vmxMode hf, hroot] at hnon
    cases hnon
  · rw [hf.root] at hnon
    cases hnon
  · exact hguest

/-- `ChecksPassed` means that step 2 passed, reading ordinary memory only. -/
theorem passesStep2_of_checksPassed (h : checkVmcs p s v = .checksPassed) : PassesStep2 p s v := by
  obtain ⟨hcontrol, hhost, haddr, -⟩ := checkVmcs_passed h
  refine ⟨?_, hcontrol, hhost, haddr⟩
  rw [← Bool.not_eq_true]
  intro hdevice
  rw [checkVmcs_of_readsDeviceMemory hdevice] at h
  cases h

end

/-- A step that gives a next state is the VM entry of the instruction that its bytes decode to. -/
theorem step_next_decode {s t : State} (h : step s = .next t) :
    ∃ i rest, decode (fetch s) = .ok (i, rest) ∧ vmEntry impl (kindOf i) s = .next t := by
  cases hd : decode (fetch s) with
  | error e =>
    rw [step_of_decode_error hd] at h
    cases h
  | ok x =>
    obtain ⟨i, rest⟩ := x
    exact ⟨i, rest, rfl, by rw [← exec_eq_vmEntry, ← step_of_decode_ok hd, h]⟩

/-- Settles O54: of the four ways to a next state only the completed entry leaves VMX root operation. -/
theorem guestEntryIsSound : Obligations.GuestEntryIsSound := by
  unfold Obligations.GuestEntryIsSound
  refine ⟨fun _ _ => step_next_decode, ?_⟩
  intro p kind s t h hnon
  obtain ⟨v, h1, hcheck, hlost, hguest⟩ := vmEntry_nonRoot h hnon
  obtain ⟨-, -, -, hreg, hseg⟩ := checkVmcs_passed hcheck
  exact ⟨⟨v, h1, passesStep2_of_checksPassed hcheck, hreg, hseg⟩, hlost, hguest.launchState, hguest.monitor⟩

/-! ### The launch state -/

/-- Settles O55: the three failures keep the launch state, and the launch state that `VMRESUME` needs is the one it leaves. -/
theorem launchStateChangesOnlyOnEntry : Obligations.LaunchStateChangesOnlyOnEntry := by
  unfold Obligations.LaunchStateChangesOnlyOnEntry
  intro p kind s t h hne
  obtain ⟨-, hf⟩ | ⟨e, v, -, hv, hf⟩ | ⟨cause, u, v, hv, hf⟩ | ⟨v, h1, -, -, hguest⟩ := vmEntry_next_cases h
  · obtain ⟨hvmcs, -⟩ := vmFailInvalid_fields hf
    exact absurd (by rw [State.launchState, State.launchState, hvmcs]) hne
  · exact absurd (State.launchState_of_vmcs hv (vmFailValid_currentVmcs hv hf) rfl) hne
  · exact absurd (State.launchState_of_vmcs hv hf.vmcs rfl) hne
  · have hs : s.launchState = some kind.needs := by rw [State.launchState, h1.vmcs, Option.map_some, h1.needs]
    cases kind with
    | launch => exact ⟨rfl, hs, hguest.launchState, hguest.nonRoot⟩
    | resume => exact absurd (hguest.launchState.trans hs.symm) hne

/-- A step keeps a launched VMCS launched, because a launch state changes from clear only. -/
theorem step_launched {s t : State} (h : step s = .next t) (hs : s.launchState = some .launched) :
    t.launchState = some .launched := by
  obtain ⟨i, -, -, hentry⟩ := step_next_decode h
  by_contra hne
  obtain ⟨-, hclear, -⟩ := launchStateChangesOnlyOnEntry impl (kindOf i) s t hentry (hs ▸ hne)
  rw [hs] at hclear
  cases hclear

/-- Settles O56, by induction on the run. -/
theorem launchedStaysLaunched : Obligations.LaunchedStaysLaunched := by
  unfold Obligations.LaunchedStaysLaunched
  exact run_induction (fun s t => s.launchState = some .launched → t.launchState = some .launched) (fun _ => id)
    fun _ _ _ hstep hrest hs => hrest (step_launched hstep hs)

/-! ### The VM-instruction error field -/

/-- Settles O57: of the four ways to a next state only `VMfailValid` writes the field. -/
theorem errorFieldChangesOnlyOnVmfail : Obligations.ErrorFieldChangesOnlyOnVmfail := by
  unfold Obligations.ErrorFieldChangesOnlyOnVmfail
  intro s t hstep hne
  obtain ⟨i, -, -, h⟩ := step_next_decode hstep
  obtain ⟨-, hf⟩ | ⟨e, v, ho, hv, hf⟩ | ⟨cause, u, v, hv, hf⟩ | ⟨v, h1, -, -, hguest⟩ := vmEntry_next_cases h
  · obtain ⟨hvmcs, -⟩ := vmFailInvalid_fields hf
    exact absurd (by rw [State.errorField, State.errorField, hvmcs]) hne
  · have hfails := vmFailValid_failsValid hv hf
    exact ⟨hfails.zf, hfails.passes.rip, e, entryOutcome_vmFailValid_mem ho,
      by rw [State.errorField, hfails.vmcs, Option.map_some]⟩
  · exact absurd (State.errorField_of_vmcs hv hf.vmcs rfl) hne
  · obtain ⟨info, hvmcs, -⟩ := hguest.vmcs
    exact absurd (State.errorField_of_vmcs h1.vmcs hvmcs rfl) hne

/-! ### The counter of the free values -/

theorem loadMsrs_draws {p : Impl} {s t : State} (h : loadMsrs p s = some t) : t.draws = s.draws := by
  obtain ⟨c, rfl | rfl⟩ := loadMsrs_next h
  · rfl
  · rfl

theorem injectEvent_draws (p : Impl) (s : State) : (injectEvent p s).draws = s.draws := by
  obtain h | h := injectEvent_cases p s
  · rw [h]
  · rw [h]
    rfl

theorem entryFailsLikeExit_draws (p : Impl) (cause : FailureCause) (s : State) :
    (entryFailsLikeExit p cause s).draws = s.draws + 1 := by
  obtain ⟨-, -, -, -, -, hdraws⟩ := entryFailsLikeExit_fields p cause s
  exact hdraws

/-- The steps into the guest count once, and so does a failure on the way (log 29). -/
theorem continueEntry_draws (p : Impl) (kind : EntryKind) (s : State) :
    (continueEntry p kind s).draws = s.draws + 1 := by
  obtain ⟨s4, -, hm, hc⟩ | ⟨-, -, hc⟩ | ⟨-, hc⟩ := continueEntry_cases p kind s
  · obtain ⟨-, -, -, hmark⟩ := markLaunched_fields kind s4
    calc (continueEntry p kind s).draws
      _ = (injectEvent p (markLaunched kind s4)).draws + 1 := by rw [hc]; rfl
      _ = (loadGuestState p s).draws + 1 := by rw [injectEvent_draws, hmark, loadMsrs_draws hm]
      _ = s.draws + 1 := rfl
  · rw [hc, entryFailsLikeExit_draws]
    rfl
  · rw [hc, entryFailsLikeExit_draws]

/-- Every outcome with a next state counts once. -/
theorem vmEntry_draws {p : Impl} {kind : EntryKind} {s t : State} (h : vmEntry p kind s = .next t) :
    t.draws = s.draws + 1 := by
  obtain ⟨-, hf⟩ | ⟨e, -, hf⟩ | ⟨-, rfl⟩ | ⟨-, rfl⟩ := vmEntry_next h
  · obtain ⟨rip, -, rfl⟩ := vmFailInvalid_next hf
    rfl
  · obtain ⟨rip, -, rfl⟩ := vmFailValid_next hf
    rfl
  · exact entryFailsLikeExit_draws p .guestState s
  · exact continueEntry_draws p kind s

/-- Settles O60, by induction on the number of steps. -/
theorem everyStepDrawsAnew : Obligations.EveryStepDrawsAnew := by
  unfold Obligations.EveryStepDrawsAnew
  intro n
  induction n with
  | zero =>
    intro s t h
    rw [run_zero h, Nat.add_zero]
  | succ n ih =>
    intro s t h
    obtain ⟨u, hstep, hrest⟩ := run_succ h
    obtain ⟨_, kind, -, hentry⟩ := step_next hstep
    have hu := vmEntry_draws hentry
    have ht := ih u t hrest
    omega

end Sys2Proof.Machine
end

section
/-! Step 1, the basic VM-entry checks (41_basic_checks.md): the outcome of each check in the order of R80, what the two
instructions do on it (R81 to R87), and when step 1 passes (R88, R89). -/

namespace Sys2Proof.Machine

/-! ### The exceptions -/

section
variable {p : Impl} {kind : EntryKind} {s : State}

/-- Check 1 (41_basic_checks.md R81). -/
theorem entryOutcome_of_wrong_mode (hroot : s.vmxMode = .root)
    (hmode : s.cpu.mode = .virtual8086 ∨ s.cpu.mode = .compatibility) : entryOutcome p kind s = .invalidOpcode := by
  rw [entryOutcome, if_neg (not_not_intro hroot), if_pos hmode]

/-- Check 2 (41_basic_checks.md R82). -/
theorem entryOutcome_of_cpl_ne_zero (hroot : s.vmxMode = .root) (hmode : s.cpu.mode = .other) (hcpl : s.cpu.cpl ≠ 0) :
    entryOutcome p kind s = .generalProtection := by
  have hmodes : ¬ (s.cpu.mode = .virtual8086 ∨ s.cpu.mode = .compatibility) := by simp [hmode]
  rw [entryOutcome, if_neg (not_not_intro hroot), if_neg hmodes, if_pos hcpl]

end

/-- Settles O11: check 1 comes first, and its exception is that of the instruction's own address. -/
theorem wrongModeRaisesInvalidOpcode : Obligations.WrongModeRaisesInvalidOpcode := by
  unfold Obligations.WrongModeRaisesInvalidOpcode
  intro i s hroot hmode
  exact ⟨s.cpu.rip, by
    rw [exec_eq_vmEntry, vmEntry, entryOutcome_of_wrong_mode hroot hmode, performOutcome, raiseInvalidOpcode]⟩

/-- Settles O12: check 2 is reached in mode `other`, and comes before anything of the VMCS. -/
theorem nonzeroCplRaisesGeneralProtection : Obligations.NonzeroCplRaisesGeneralProtection := by
  unfold Obligations.NonzeroCplRaisesGeneralProtection
  intro i s hroot hmode hcpl
  exact ⟨s.cpu.rip, 0, by
    rw [exec_eq_vmEntry, vmEntry, entryOutcome_of_cpl_ne_zero hroot hmode hcpl, performOutcome, raiseGeneralProtection]⟩

/-! ### The VM-instruction failures -/

theorem vmFailInvalid_of_nextInRange {s : State} (h : s.NextInRange) : ∃ t, vmFailInvalid impl s = .next t :=
  ⟨_, by rw [vmFailInvalid, nextRip_of_nextInRange h]⟩

section
variable {i : Instr} {s t : State} {v : Vmcs} {e : Word32}

/-- The outcome `VMfailInvalid` carried out, where the next instruction lies in range (40_vm_entry_sequence.md R66). -/
theorem exec_failsInvalid (hrange : s.NextInRange) (ho : entryOutcome impl (kindOf i) s = .vmFailInvalid) :
    ∃ t, exec i s = .next t ∧ FailsInvalid s t := by
  obtain ⟨t, ht⟩ := vmFailInvalid_of_nextInRange hrange
  exact ⟨t, by rw [exec_eq_vmEntry, vmEntry_of_vmFailInvalid ho, ht],
    vmFailInvalid_failsInvalid (entryOutcome_vmFailInvalid ho) ht⟩

/-- The outcome `VMfailValid(e)` carried out, where the next instruction lies in range (40_vm_entry_sequence.md R67). -/
theorem exec_failsValid (hv : s.currentVmcs = some v) (hrange : s.NextInRange)
    (ho : entryOutcome impl (kindOf i) s = .vmFailValid e) : ∃ t, exec i s = .next t ∧ FailsValid e v s t := by
  obtain ⟨t, ht⟩ := vmFailValid_of_nextInRange e hrange
  exact ⟨t, by rw [exec_eq_vmEntry, vmEntry_of_vmFailValid ho, ht], vmFailValid_failsValid hv ht⟩

theorem FailsValid.errorField (h : FailsValid e v s t) : t.errorField = some e := by
  rw [State.errorField, h.vmcs, Option.map_some]

/-- `VMfailValid` does not touch the launch state (41_basic_checks.md R85, R86). -/
theorem FailsValid.launchState (h : FailsValid e v s t) (hv : s.currentVmcs = some v) :
    t.launchState = s.launchState :=
  State.launchState_of_vmcs hv h.vmcs rfl

end

/-- Settles O14: check 3 ends in `VMfailInvalid`. -/
theorem noCurrentVmcsFailsInvalid : Obligations.NoCurrentVmcsFailsInvalid := by
  unfold Obligations.NoCurrentVmcsFailsInvalid
  intro i s hroot hmode hcpl hv hrange
  obtain ⟨t, ht, hfails⟩ := exec_failsInvalid (i := i) hrange (entryOutcome_of_no_vmcs hroot hmode hcpl hv)
  exact ⟨t, ht, hfails.cf, hfails.passes.rip⟩

/-- Settles O15: check 4 (a) comes before the launch state is looked at. -/
theorem movSsBlockingFailsValid : Obligations.MovSsBlockingFailsValid := by
  unfold Obligations.MovSsBlockingFailsValid
  intro i s v hroot hmode hcpl hv hss hrange
  obtain ⟨t, ht, hfails⟩ := exec_failsValid (i := i) hv hrange (entryOutcome_of_movss hroot hmode hcpl hv hss)
  exact ⟨t, ht, hfails.zf, hfails.errorField, hfails.passes.rip⟩

/-- Check 4 (b) and (c) for either instruction: the launch state is not the one it needs (41_basic_checks.md R85, R86). -/
theorem exec_of_wrong_launchState (i : Instr) {s : State} {v : Vmcs} (hroot : s.vmxMode = .root)
    (hmode : s.cpu.mode = .other) (hcpl : s.cpu.cpl = 0) (hv : s.currentVmcs = some v) (hss : s.movssBlocking = false)
    (hl : v.launchState ≠ (kindOf i).needs) (hrange : s.NextInRange) :
    ∃ t, exec i s = .next t ∧ bit t.cpu.rflags 6 = true ∧ t.errorField = some (launchStateError impl (kindOf i))
      ∧ t.launchState = s.launchState ∧ t.cpu.rip = s.cpu.rip + BitVec.ofNat 64 impl.insnLen := by
  obtain ⟨t, ht, hfails⟩ := exec_failsValid hv hrange (entryOutcome_of_wrong_launchState hroot hmode hcpl hv hss hl)
  exact ⟨t, ht, hfails.zf, hfails.errorField, hfails.launchState hv, hfails.passes.rip⟩

/-- Settles O16: `VMLAUNCH` needs a clear VMCS. -/
theorem launchOfLaunchedVmcsFails : Obligations.LaunchOfLaunchedVmcsFails := by
  unfold Obligations.LaunchOfLaunchedVmcsFails
  intro s v
  exact exec_of_wrong_launchState .vmlaunch

/-- Settles O17: `VMRESUME` needs a launched VMCS. -/
theorem resumeOfClearVmcsFails : Obligations.ResumeOfClearVmcsFails := by
  unfold Obligations.ResumeOfClearVmcsFails
  intro s v
  exact exec_of_wrong_launchState .vmresume

/-! ### When step 1 passes -/

/-- The outcomes of step 1's own failures, the rows of R89 that do not pass (41_basic_checks.md). -/
def step1Failures (p : Impl) (kind : EntryKind) : List EntryOutcome :=
  [.invalidOpcode, .generalProtection, .vmFailInvalid, .vmFailValid p.errMovss, .vmFailValid (launchStateError p kind)]

section
variable {p : Impl} {kind : EntryKind} {s : State} {v : Vmcs} {e : Word32}

/-- The decision table of step 1, tried from the top: a row fails, or step 1 passes (41_basic_checks.md R89). -/
theorem step1Failures_or_passesStep1 (p : Impl) (kind : EntryKind) (hroot : s.vmxMode = .root) :
    entryOutcome p kind s ∈ step1Failures p kind ∨ ∃ v, s.PassesStep1 kind v := by
  cases hmode : s.cpu.mode with
  | virtual8086 => simp [entryOutcome_of_wrong_mode hroot (.inl hmode), step1Failures]
  | compatibility => simp [entryOutcome_of_wrong_mode hroot (.inr hmode), step1Failures]
  | other =>
    by_cases hcpl : s.cpu.cpl = 0
    case neg => simp [entryOutcome_of_cpl_ne_zero hroot hmode hcpl, step1Failures]
    cases hv : s.currentVmcs with
    | none => simp [entryOutcome_of_no_vmcs hroot hmode hcpl hv, step1Failures]
    | some v =>
      cases hss : s.movssBlocking with
      | true => simp [entryOutcome_of_movss hroot hmode hcpl hv hss, step1Failures]
      | false =>
        by_cases hl : v.launchState = kind.needs
        · exact .inr ⟨v, hroot, hmode, hcpl, hv, hss, hl⟩
        · simp [entryOutcome_of_wrong_launchState hroot hmode hcpl hv hss hl, step1Failures]

/-- The four outcomes of the checks on the current VMCS (40_vm_entry_sequence.md R63). -/
theorem checkVmcs_cases (p : Impl) (s : State) (v : Vmcs) :
    checkVmcs p s v = .refuse .virtualApicPageNotMemory
      ∨ (∃ e ∈ step2Errors p s v, checkVmcs p s v = .vmFailValid e)
      ∨ checkVmcs p s v = .checksPassed ∨ checkVmcs p s v = .entryFailsLikeExit := by
  unfold checkVmcs
  split
  · exact .inl rfl
  · split
    · next e hchosen => exact .inr (.inl ⟨e, chooseError_mem hchosen, rfl⟩)
    · split
      · exact .inr (.inr (.inl rfl))
      · exact .inr (.inr (.inr rfl))

/-- The numbers of step 2 are none of step 1's (41_basic_checks.md R87). -/
theorem step2Errors_ne_step1 (hp : p.errorsOk = true) (kind : EntryKind) (he : e ∈ step2Errors p s v) :
    e ≠ p.errMovss ∧ e ≠ launchStateError p kind := by
  have hnodup : ([p.errMovss, p.errLaunchNotClear, p.errResumeNotLaunched] ++ [p.errEntryCtrl, p.errEntryHost]).Nodup :=
    of_decide_eq_true hp
  have hstep2 : e ∈ [p.errEntryCtrl, p.errEntryHost] := by
    obtain ⟨rfl, -⟩ | ⟨rfl, -⟩ := mem_step2Errors_iff.1 he <;> simp
  have hstep1 : e ∉ [p.errMovss, p.errLaunchNotClear, p.errResumeNotLaunched] :=
    fun h => List.disjoint_of_nodup_append hnodup h hstep2
  simp only [List.mem_cons, List.not_mem_nil, or_false, not_or] at hstep1
  obtain ⟨hmovss, hlaunch, hresume⟩ := hstep1
  cases kind with
  | launch => exact ⟨hmovss, hlaunch⟩
  | resume => exact ⟨hmovss, hresume⟩

/-- With the error numbers distinct, the later steps' outcomes are told apart from step 1's. -/
theorem checkVmcs_notMem_step1Failures (hp : p.errorsOk = true) : checkVmcs p s v ∉ step1Failures p kind := by
  obtain h | ⟨e, he, h⟩ | h | h := checkVmcs_cases p s v
  · simp [h, step1Failures]
  · simp [h, step1Failures, step2Errors_ne_step1 hp kind he]
  · simp [h, step1Failures]
  · simp [h, step1Failures]

end

/-- Settles O19: past step 1 the outcome is that of the checks on the VMCS, and short of it the table of R89 gives one of
the five. -/
theorem step1PassesExactlyWhen : Obligations.Step1PassesExactlyWhen := by
  unfold Obligations.Step1PassesExactlyWhen
  intro kind s hroot
  constructor
  · rintro ⟨v, h1⟩
    rw [entryOutcome_of_step1 h1]
    exact checkVmcs_notMem_step1Failures impl_errorsOk
  · exact (step1Failures_or_passesStep1 impl kind hroot).resolve_left

end Sys2Proof.Machine
end

section
/-! Step 2, the checks on the VMX controls (42_control_checks.md): each check by the bits and numbers its rule names (R90 to
R110), the CR3 check that has the same form (43_host_state_checks.md R123, 44_guest_register_checks.md R144), what the classes
of checks consist of (R112, R129, R138, R151, R210), and the fields that a control, count or valid bit of 0 disables. -/

namespace Sys2Proof.Machine

/-! ### Bits, slices and masks (00_scope.md R6) -/

section
variable {w : Nat}

theorem eq_iff_bits {x y : BitVec w} : x = y ↔ ∀ k, k < w → bit x k = bit y k :=
  ⟨fun h _ _ => h ▸ rfl, BitVec.eq_of_getLsbD_eq⟩

theorem bit_and (x y : BitVec w) (k : Nat) : bit (x &&& y) k = (bit x k && bit y k) := BitVec.getLsbD_and

theorem bit_zero (k : Nat) : bit (0 : BitVec w) k = false := BitVec.getLsbD_zero

theorem bit_eq_testBit (x : BitVec w) (k : Nat) : bit x k = x.toNat.testBit k := BitVec.testBit_toNat x

/-- A bit beyond a vector's width reads 0. -/
theorem bit_of_width_le (x : BitVec w) {k : Nat} (h : w ≤ k) : bit x k = false := BitVec.getLsbD_of_ge x k h

/-- Bit `i` of `v[hi:lo]` is bit `lo + i` of `v`. -/
theorem testBit_slice (x : BitVec w) (hi lo i : Nat) :
    (slice x hi lo).testBit i = (decide (i < hi + 1 - lo) && bit x (lo + i)) := by
  rw [slice, Nat.testBit_mod_two_pow, Nat.testBit_div_two_pow, bit_eq_testBit, Nat.add_comm lo]

/-- `v[hi:lo]` is 0 when each of its bits is. -/
theorem slice_eq_zero_iff (x : BitVec w) (hi lo : Nat) :
    slice x hi lo = 0 ↔ ∀ k, lo ≤ k → k ≤ hi → bit x k = false := by
  constructor
  · intro h k hlo hhi
    have hbit := testBit_slice x hi lo (k - lo)
    rw [h, Nat.zero_testBit, Nat.add_sub_cancel' hlo, decide_eq_true (by omega), Bool.true_and] at hbit
    exact hbit.symm
  · intro h
    refine Nat.zero_of_testBit_eq_false fun i => ?_
    rw [testBit_slice]
    by_cases hlt : i < hi + 1 - lo
    · rw [h _ (by omega) (by omega), Bool.and_false]
    · rw [decide_eq_false hlt, Bool.false_and]

/-- `v[hi:0]` is the remainder by a power of two. -/
theorem slice_zero_eq_mod (x : BitVec w) (hi : Nat) : slice x hi 0 = x.toNat % 2 ^ (hi + 1) := by
  rw [slice, pow_zero, Nat.div_one, Nat.sub_zero]

/-- A word agrees with a mask of ones where the mask is 1. -/
theorem and_eq_mask_iff (x mask : BitVec w) :
    x &&& mask = mask ↔ ∀ k, k < w → bit mask k = true → bit x k = true := by
  rw [eq_iff_bits]
  refine forall₂_congr fun k _ => ?_
  rw [bit_and]
  cases bit mask k <;> simp

/-- A word has no bit in common with a mask. -/
theorem and_eq_zero_iff_bits (x mask : BitVec w) :
    x &&& mask = 0 ↔ ∀ k, k < w → bit mask k = true → bit x k = false := by
  rw [eq_iff_bits]
  refine forall₂_congr fun k _ => ?_
  rw [bit_and, bit_zero]
  cases bit mask k <;> simp

/-- The check of reserved bits looks at the bits of its two masks and at no other (42_control_checks.md R90). -/
theorem reservedOk_iff (must1 must0 x : BitVec w) :
    reservedOk must1 must0 x = true
      ↔ ∀ k, k < w → (bit must1 k = true → bit x k = true) ∧ (bit must0 k = true → bit x k = false) := by
  rw [reservedOk, Bool.and_eq_true, beq_iff_eq, beq_iff_eq, and_eq_mask_iff, and_eq_zero_iff_bits, ← forall₂_and]

end

/-! ### The physical-address width (42_control_checks.md R110) -/

section
variable {p : Impl}

theorem withinPaw_iff {a : Nat} : withinPaw p a = true ↔ a < 2 ^ p.paw := by
  rw [withinPaw, beq_iff_eq, Nat.div_eq_zero_iff_lt (Nat.two_pow_pos _)]

/-- A word is within the physical-address width when no bit at or beyond it is set. -/
theorem withinPaw_iff_bits {x : Word64} : withinPaw p x.toNat = true ↔ ∀ k, p.paw ≤ k → bit x k = false := by
  simp only [withinPaw_iff, bit_eq_testBit]
  exact ⟨fun h k hk => Nat.testBit_eq_false_of_lt (h.trans_le (Nat.pow_le_pow_right two_pos hk)),
    fun h => Nat.lt_pow_two_of_testBit _ h⟩

theorem pawOk_iff : p.pawOk = true ↔ 32 ≤ p.paw ∧ p.paw ≤ 52 := by
  rw [Impl.pawOk, Bool.and_eq_true, decide_eq_true_iff, decide_eq_true_iff]

/-- The CR3 check looks at bits 63:52, and at those of bits 51:32 that lie at or beyond the physical-address width. -/
theorem cr3Ok_iff {x : Word64} : cr3Ok p x = true
    ↔ (∀ k, 52 ≤ k → k ≤ 63 → bit x k = false) ∧ ∀ k, 32 ≤ k → k < 52 → p.paw ≤ k → bit x k = false := by
  rw [cr3Ok, Bool.and_eq_true, beq_iff_eq, slice_eq_zero_iff, List.all_eq_true]
  refine and_congr_right fun _ => forall_congr' fun k => ?_
  simp [List.mem_range'_1, or_iff_not_imp_left]

/-- For a width of 32..52 the two ranges of the CR3 check are together the bits at or beyond it. -/
theorem cr3Ok_eq_withinPaw (hp : p.pawOk = true) (x : Word64) : cr3Ok p x = withinPaw p x.toNat := by
  obtain ⟨hlower, hupper⟩ := pawOk_iff.1 hp
  rw [Bool.eq_iff_iff, cr3Ok_iff, withinPaw_iff_bits]
  constructor
  · rintro ⟨hhigh, hmid⟩ k hk
    obtain hk52 | hk52 := Nat.lt_or_ge k 52
    · exact hmid k (hlower.trans hk) hk52 hk
    · obtain hk64 | hk64 := Nat.lt_or_ge k 64
      · exact hhigh k hk52 (by omega)
      · exact bit_of_width_le x hk64
  · exact fun h => ⟨fun k hk _ => h k (hupper.trans hk), fun k _ _ hk => h k hk⟩

end

/-- Settles O31: the host and the guest check are the one check of a CR3 field. -/
theorem cr3CheckIsWithinPaw : Obligations.Cr3CheckIsWithinPaw := by
  unfold Obligations.Cr3CheckIsWithinPaw
  exact ⟨fun _ x hp => cr3Ok_eq_withinPaw hp x, fun _ _ hp => ⟨cr3Ok_eq_withinPaw hp _, cr3Ok_eq_withinPaw hp _⟩⟩

/-! ### The control words and the CR3-target count (R90 to R94) -/

theorem cr3TargetCountOk_iff {p : Impl} {v : Vmcs} :
    cr3TargetCountOk p v = true ↔ v.ctl.cr3TargetCount.toNat ≤ p.cr3TargetMax := decide_eq_true_iff

/-- Settles O23: the four checks are the one check of reserved bits, each on its own word and masks. -/
theorem reservedControlBitsByBit : Obligations.ReservedControlBitsByBit := by
  unfold Obligations.ReservedControlBitsByBit
  exact ⟨fun _ _ => ⟨reservedOk_iff _ _ _, reservedOk_iff _ _ _, reservedOk_iff _ _ _, reservedOk_iff _ _ _⟩,
    fun _ => cr3TargetCountOk_iff⟩

/-! ### The event to inject (R95 to R100) -/

section
variable {p : Impl} {v : Vmcs} {info code len : Word32}

theorem injectionTypeOk_iff : injectionTypeOk info = true ↔ infoType info ≠ 1 ∧ infoType info ≠ 7 := by
  rw [injectionTypeOk, Bool.and_eq_true, bne_iff_ne, bne_iff_ne]

theorem injectionVectorOk_iff : injectionVectorOk p info = true
    ↔ (infoType info = p.itypeNmi → slice info 7 0 = 2) ∧ (infoType info = p.itypeHwExc → slice info 7 0 ≤ 31) := by
  rw [injectionVectorOk, Bool.and_eq_true, Bool.or_eq_true, Bool.or_eq_true, bne_iff_ne, bne_iff_ne, beq_iff_eq,
    decide_eq_true_iff, imp_iff_not_or, imp_iff_not_or]
  rfl

theorem injectionErrorBitOk_iff : injectionErrorBitOk p info = true
    ↔ (bit info 11 = true ↔ infoType info = p.itypeHwExc ∧ slice info 7 0 ∈ [8, 10, 11, 12, 13, 14, 17]) := by
  rw [injectionErrorBitOk, beq_iff_eq, Bool.eq_iff_iff, Bool.and_eq_true, beq_iff_eq, List.contains_iff_mem]
  rfl

theorem injectionReservedOk_iff :
    injectionReservedOk info = true ↔ ∀ k, 12 ≤ k → k ≤ 30 → bit info k = false := by
  rw [injectionReservedOk, beq_iff_eq, infoReserved, slice_eq_zero_iff]

theorem injectionErrorCodeOk_iff : injectionErrorCodeOk info code = true
    ↔ (bit info 11 = true → ∀ k, 15 ≤ k → k ≤ 31 → bit code k = false) := by
  rw [← slice_eq_zero_iff]
  simp [injectionErrorCodeOk, infoDeliverErrorCode, imp_iff_not_or]

theorem injectionLengthOk_iff : injectionLengthOk p info len = true
    ↔ (infoType info = p.itypeSwInt ∨ infoType info = p.itypeSwExc ∨ infoType info = p.itypePrivSwExc →
      1 ≤ len.toNat ∧ len.toNat ≤ 15) := by
  rw [injectionLengthOk, imp_iff_not_or]
  simp [and_assoc]

/-- The six conditions are looked at exactly when the valid bit is 1 (R95). -/
theorem eventInjectionOk_iff : eventInjectionOk p v = true ↔ (infoValid v.ctl.entryIntInfo = true →
    injectionTypeOk v.ctl.entryIntInfo = true ∧ injectionVectorOk p v.ctl.entryIntInfo = true
      ∧ injectionErrorBitOk p v.ctl.entryIntInfo = true ∧ injectionReservedOk v.ctl.entryIntInfo = true
      ∧ injectionErrorCodeOk v.ctl.entryIntInfo v.ctl.entryExcErrorCode = true
      ∧ injectionLengthOk p v.ctl.entryIntInfo v.ctl.entryInsnLen = true) := by
  rw [imp_iff_not_or]
  simp [eventInjectionOk, and_assoc]

end

/-- Settles O24: each condition by its own lemma, then the gate. -/
theorem eventInjectionConditions : Obligations.EventInjectionConditions := by
  unfold Obligations.EventInjectionConditions
  exact ⟨fun _ => injectionTypeOk_iff, fun _ _ => injectionVectorOk_iff, fun _ _ => injectionErrorBitOk_iff,
    fun _ => injectionReservedOk_iff, fun _ _ => injectionErrorCodeOk_iff, fun _ _ _ => injectionLengthOk_iff,
    fun _ _ => eventInjectionOk_iff⟩

/-! ### The page addresses (R101, R102) -/

section
variable {p : Impl} {v : Vmcs}

theorem pageAddressOk_iff {a : Word64} : pageAddressOk p a = true ↔ a.toNat % 4096 = 0 ∧ a.toNat < 2 ^ p.paw := by
  rw [pageAddressOk, Bool.and_eq_true, beq_iff_eq, withinPaw_iff, slice_zero_eq_mod]
  rfl

theorem ioBitmapsOk_iff : ioBitmapsOk p v = true ↔ (activateIoBitmaps p v = true →
    pageAddressOk p v.ctl.ioBitmapA = true ∧ pageAddressOk p v.ctl.ioBitmapB = true) := by
  rw [imp_iff_not_or]
  simp [ioBitmapsOk]

theorem virtualApicPageOk_iff :
    virtualApicPageOk p v = true ↔ (useTprShadow p v = true → pageAddressOk p v.ctl.virtualApicPage = true) := by
  rw [imp_iff_not_or]
  simp [virtualApicPageOk]

end

/-- Settles O25: the gates say when the pages are looked at, `pageAddressOk_iff` what is asked of each. -/
theorem pageAddressConditions : Obligations.PageAddressConditions := by
  unfold Obligations.PageAddressConditions
  intro p v
  rw [ioBitmapsOk_iff, virtualApicPageOk_iff]
  simp only [pageAddressOk_iff, and_self]

/-! ### The MSR areas (R103 to R109) -/

section
variable {p : Impl} {m : MsrArea}

theorem msrAreaStartOk_iff : msrAreaStartOk p m = true
    ↔ (m.count ≠ 0 → m.addr.toNat % 16 = 0 ∧ m.addr.toNat < 2 ^ p.paw) := by
  rw [msrAreaStartOk, Bool.or_eq_true, Bool.and_eq_true, beq_iff_eq, beq_iff_eq, withinPaw_iff, slice_zero_eq_mod,
    or_iff_not_imp_left]
  rfl

theorem msrAreaCount_pos (h : m.count ≠ 0) : 0 < m.count.toNat :=
  Nat.pos_of_ne_zero fun hzero => h (BitVec.eq_of_toNat_eq hzero)

/-- The last byte of an area with entries is within the width exactly if the end of the area is at most `2^PAW`
(R103, 70 R270). -/
theorem msrAreaLastByte_lt_iff (h : m.count ≠ 0) {n : Nat} :
    msrAreaLastByte m < n ↔ m.addr.toNat + 16 * m.count.toNat ≤ n := by
  have hpos := msrAreaCount_pos h
  rw [msrAreaLastByte]
  omega

theorem msrAreaEndOk_iff : msrAreaEndOk p m = true
    ↔ (m.count ≠ 0 → m.addr.toNat + 16 * m.count.toNat ≤ 2 ^ p.paw) := by
  rw [msrAreaEndOk, Bool.or_eq_true, beq_iff_eq, withinPaw_iff, or_iff_not_imp_left]
  exact forall_congr' fun h => msrAreaLastByte_lt_iff h

/-- An area whose end is within the width starts within it, so both checks together ask for alignment and the end. -/
theorem msrAreaOk_iff : (msrAreaStartOk p m = true ∧ msrAreaEndOk p m = true)
    ↔ (m.count ≠ 0 → m.addr.toNat % 16 = 0 ∧ m.addr.toNat + 16 * m.count.toNat ≤ 2 ^ p.paw) := by
  rw [msrAreaStartOk_iff, msrAreaEndOk_iff, ← imp_and]
  refine forall_congr' fun hcount => ?_
  have hpos := msrAreaCount_pos hcount
  constructor
  · rintro ⟨⟨halign, -⟩, hend⟩
    exact ⟨halign, hend⟩
  · rintro ⟨halign, hend⟩
    exact ⟨⟨halign, by omega⟩, hend⟩

end

/-- Settles O26: each of the six checks on the VMCS is the start or the end check of one area. -/
theorem msrAreaLiesBelowTheTop : Obligations.MsrAreaLiesBelowTheTop := by
  unfold Obligations.MsrAreaLiesBelowTheTop
  exact ⟨fun _ _ => msrAreaOk_iff, fun _ _ => ⟨msrAreaStartOk_iff, msrAreaEndOk_iff, msrAreaStartOk_iff, msrAreaEndOk_iff,
    msrAreaStartOk_iff, msrAreaEndOk_iff⟩⟩

/-! ### The classes of checks (R112, R129, R138, R151, R210) -/

/-- Settles O40: a class is the conjunction of its checks, in the order of the statement. -/
theorem classesAreTheirChecks : Obligations.ClassesAreTheirChecks := by
  unfold Obligations.ClassesAreTheirChecks
  intro p s m lma v
  refine ⟨?control, ?host, ?addrSpace, ?guestRegister, ?guestSegment⟩
  case control => simp only [controlChecksPass, Bool.and_eq_true, and_assoc]
  case host => simp only [hostChecksPass, Bool.and_eq_true, and_assoc]
  case addrSpace => simp only [addrSpaceChecksPass, Bool.and_eq_true, and_assoc]
  case guestRegister => simp only [guestRegisterChecksPass, Bool.and_eq_true, and_assoc]
  case guestSegment => rw [guestSegmentChecksPass, Bool.and_eq_true]

/-! ### Disabled fields (R95, R101, R102, R103, R111) -/

section
variable {p : Impl} {m : Memory} {v : Vmcs}

theorem virtualApicPageOk_of_no_shadow (h : useTprShadow p v = false) : virtualApicPageOk p v = true :=
  virtualApicPageOk_iff.2 fun hset => by simp [h] at hset

theorem tprThresholdOk_of_no_shadow (h : useTprShadow p v = false) : tprThresholdOk p m v = true :=
  tprThresholdOk_of_not_read (by rw [readsVirtualApicPage, h, Bool.false_and])

theorem ioBitmapsOk_of_no_bitmaps (h : activateIoBitmaps p v = false) : ioBitmapsOk p v = true :=
  ioBitmapsOk_iff.2 fun hset => by simp [h] at hset

theorem eventInjectionOk_of_invalid (h : infoValid v.ctl.entryIntInfo = false) : eventInjectionOk p v = true :=
  eventInjectionOk_iff.2 fun hset => by simp [h] at hset

theorem msrAreaStartOk_of_empty {a : MsrArea} (h : a.count = 0) : msrAreaStartOk p a = true :=
  msrAreaStartOk_iff.2 fun hne => absurd h hne

theorem msrAreaEndOk_of_empty {a : MsrArea} (h : a.count = 0) : msrAreaEndOk p a = true :=
  msrAreaEndOk_iff.2 fun hne => absurd h hne

/-- "use TPR shadow" 0 disables the virtual-APIC page address and the TPR threshold. -/
theorem controlChecksPass_virtualApic (h : useTprShadow p v = false) (page : Word64) (threshold : Word32) :
    controlChecksPass p m { v with ctl := { v.ctl with virtualApicPage := page, tprThreshold := threshold } }
      = controlChecksPass p m v := by
  rw [useTprShadow] at h
  simp only [controlChecksPass, virtualApicPageOk_of_no_shadow, tprThresholdOk_of_no_shadow, useTprShadow, h]
  rfl

/-- "activate I/O bitmaps" 0 disables the two bitmap addresses. -/
theorem controlChecksPass_ioBitmaps (h : activateIoBitmaps p v = false) (a b : Word64) :
    controlChecksPass p m { v with ctl := { v.ctl with ioBitmapA := a, ioBitmapB := b } } = controlChecksPass p m v := by
  rw [activateIoBitmaps] at h
  simp only [controlChecksPass, ioBitmapsOk_of_no_bitmaps, activateIoBitmaps, h]
  rfl

/-- Counts of 0 disable the addresses of the three MSR areas. -/
theorem controlChecksPass_msrAreas (hstore : v.ctl.exitMsrStore.count = 0) (hload : v.ctl.exitMsrLoad.count = 0)
    (hentry : v.ctl.entryMsrLoad.count = 0) (a b c : Word64) :
    controlChecksPass p m
        { v with ctl := { v.ctl with exitMsrStore := ⟨a, 0⟩, exitMsrLoad := ⟨b, 0⟩, entryMsrLoad := ⟨c, 0⟩ } }
      = controlChecksPass p m v := by
  simp only [controlChecksPass, exitMsrStoreStartOk, exitMsrStoreEndOk, exitMsrLoadStartOk, exitMsrLoadEndOk,
    entryMsrLoadStartOk, entryMsrLoadEndOk, msrAreaStartOk_of_empty, msrAreaEndOk_of_empty, hstore, hload, hentry]
  rfl

/-- A valid bit of 0 disables the three injection fields. -/
theorem controlChecksPass_eventInjection (h : infoValid v.ctl.entryIntInfo = false) {info : Word32} (code len : Word32)
    (hinfo : infoValid info = false) :
    controlChecksPass p m
        { v with ctl := { v.ctl with entryIntInfo := info, entryExcErrorCode := code, entryInsnLen := len } }
      = controlChecksPass p m v := by
  simp only [controlChecksPass, eventInjectionOk_of_invalid, h, hinfo]
  rfl

end

/-- Settles O29: a disabled field is read only by checks that pass whatever it holds. -/
theorem disabledFieldsDoNotMatter : Obligations.DisabledFieldsDoNotMatter := by
  unfold Obligations.DisabledFieldsDoNotMatter
  intro p m v
  exact ⟨controlChecksPass_virtualApic, controlChecksPass_ioBitmaps,
    fun ⟨hstore, hload, hentry⟩ => controlChecksPass_msrAreas hstore hload hentry,
    fun h _ code len => controlChecksPass_eventInjection h code len⟩

end Sys2Proof.Machine
end

section
/-! Step 2, the checks on the host-state area and on address-space size (43_host_state_checks.md): the control registers by the
bits the machine's implementation asks for (R121, R122, and R141, R142 of 44_guest_register_checks.md), the other fields of the
host-state area (R124 to R128), and the address-space size (R131 to R138). -/

namespace Sys2Proof.Machine

/-! ### The control registers (R121, R122, R141, R142) -/

/-- Where no bit must be 0, the check of reserved bits asks for the positions at which the other mask is 1. -/
theorem reservedOk_eq_all {w : Nat} {must1 : BitVec w} (positions : List Nat) (hlt : ∀ k ∈ positions, k < w)
    (hmust : ∀ k < w, bit must1 k = true ↔ k ∈ positions) (x : BitVec w) :
    reservedOk must1 0 x = positions.all (bit x) := by
  rw [Bool.eq_iff_iff, reservedOk_iff, List.all_eq_true]
  constructor
  · exact fun hx k hmem => (hx k (hlt k hmem)).1 ((hmust k (hlt k hmem)).2 hmem)
  · exact fun hx k hk => ⟨fun hset => hx k ((hmust k hk).1 hset),
      fun hzero => absurd ((bit_zero k).symm.trans hzero) Bool.false_ne_true⟩

theorem reservedOk_impl_cr0 (x : Word64) :
    reservedOk impl.cr0Must1 impl.cr0Must0 x = (bit x 0 && bit x 5 && bit x 31) := by
  rw [impl_cr0Must1, impl_cr0Must0, reservedOk_eq_all [0, 5, 31] (by decide) (by decide)]
  simp [Bool.and_assoc]

theorem reservedOk_impl_cr4 (x : Word64) : reservedOk impl.cr4Must1 impl.cr4Must0 x = bit x 13 := by
  rw [impl_cr4Must1, impl_cr4Must0, reservedOk_eq_all [13] (by decide) (by decide)]
  simp

/-- Settles O30: the host and the guest check are the one check of a CR0 field and the one check of a CR4 field. -/
theorem controlRegisterBitsRequired : Obligations.ControlRegisterBitsRequired := by
  unfold Obligations.ControlRegisterBitsRequired
  exact fun _ => ⟨reservedOk_impl_cr0 _, reservedOk_impl_cr4 _, reservedOk_impl_cr0 _, reservedOk_impl_cr4 _⟩

/-! ### The other fields of the host-state area (R124 to R128) -/

section
variable {p : Impl} {v : Vmcs} {sel : Word16}

/-- RPL and TI of a selector are its bits 1:0 and 2 (10_state.md R41). -/
theorem selectorBits_iff : slice sel 2 0 = 0 ↔ bit sel 0 = false ∧ bit sel 1 = false ∧ bit sel 2 = false := by
  rw [slice_eq_zero_iff]
  constructor
  · exact fun h => ⟨h 0 (by omega) (by omega), h 1 (by omega) (by omega), h 2 (by omega) (by omega)⟩
  · rintro ⟨h0, h1, h2⟩ k - hk
    interval_cases k
    · exact h0
    · exact h1
    · exact h2

theorem hostSysenterOk_iff :
    hostSysenterOk p v = true ↔ canonical p v.host.sysenterEsp = true ∧ canonical p v.host.sysenterRip = true := by
  rw [hostSysenterOk, Bool.and_eq_true]

theorem hostSelectorBitsOk_iff : hostSelectorBitsOk v = true ↔ ∀ sel ∈ hostSelectors v.host, slice sel 2 0 = 0 := by
  simp only [hostSelectorBitsOk, List.all_eq_true, beq_iff_eq]

theorem hostCsTrNotNull_iff : hostCsTrNotNull v = true ↔ v.host.csSel ≠ 0 ∧ v.host.trSel ≠ 0 := by
  rw [hostCsTrNotNull, Bool.and_eq_true, bne_iff_ne, bne_iff_ne]

theorem hostSsOk_iff : hostSsOk p v = true ↔ (hostAddrSpaceSize p v = false → v.host.ssSel ≠ 0) := by
  rw [hostSsOk, Bool.or_eq_true, bne_iff_ne, or_iff_not_imp_left, Bool.not_eq_true]

theorem hostBasesOk_iff : hostBasesOk p v = true ↔ ∀ a ∈ hostBases v.host, canonical p a = true := by
  rw [hostBasesOk, List.all_eq_true]

/-- A selector that is not null and whose RPL and TI are 0 has a nonzero index. -/
theorem eight_le_selector (hbits : slice sel 2 0 = 0) (hnull : sel ≠ 0) : 8 ≤ sel.toNat := by
  have hmod : sel.toNat % 8 = 0 := (slice_zero_eq_mod sel 2).symm.trans hbits
  have hpos : sel.toNat ≠ 0 := fun h => hnull (BitVec.eq_of_toNat_eq h)
  omega

end

/-- Settles O32: each check by its own lemma, the selectors' three bits by `selectorBits_iff`. -/
theorem hostAreaConditions : Obligations.HostAreaConditions := by
  unfold Obligations.HostAreaConditions
  exact fun _ _ => ⟨hostSysenterOk_iff, hostSelectorBitsOk_iff.trans (forall₂_congr fun _ _ => selectorBits_iff),
    hostCsTrNotNull_iff, hostSsOk_iff, hostBasesOk_iff⟩

/-- Settles O34: CS and TR are among the selectors checked. -/
theorem hostSelectorsAreAtLeastEight : Obligations.HostSelectorsAreAtLeastEight := by
  unfold Obligations.HostSelectorsAreAtLeastEight
  intro v hbits hnull
  rw [hostSelectorBitsOk_iff] at hbits
  obtain ⟨hcs, htr⟩ := hostCsTrNotNull_iff.1 hnull
  exact ⟨eight_le_selector (hbits _ (by simp [hostSelectors])) hcs,
    eight_le_selector (hbits _ (by simp [hostSelectors])) htr⟩

/-! ### The address-space size (R131, R133, R134, R136, R137) -/

section
variable {p : Impl} {lma : Bool} {v : Vmcs}

/-- The bits of a word from `lo` up are 0 exactly if its number is below `2^lo`. -/
theorem slice_top_eq_zero_iff {n lo : Nat} (x : BitVec (n + 1)) (hlo : lo ≤ n + 1) :
    slice x n lo = 0 ↔ x.toNat < 2 ^ lo := by
  have hdiv : x.toNat / 2 ^ lo < 2 ^ (n + 1 - lo) := by
    rw [Nat.div_lt_iff_lt_mul (Nat.two_pow_pos lo), Nat.pow_sub_mul_pow 2 hlo]
    exact x.isLt
  rw [slice, Nat.mod_eq_of_lt hdiv, Nat.div_eq_zero_iff_lt (Nat.two_pow_pos lo)]

theorem guestModeFitsLma_iff : guestModeFitsLma p lma v = true ↔ (lma = false → ia32eModeGuest p v = false) := by
  rw [guestModeFitsLma, Bool.or_eq_true, Bool.not_eq_true', or_iff_not_imp_left, Bool.not_eq_true]

theorem guestModeFitsHost_iff :
    guestModeFitsHost p v = true ↔ (hostAddrSpaceSize p v = false → ia32eModeGuest p v = false) := by
  rw [guestModeFitsHost, Bool.or_eq_true, Bool.not_eq_true', or_iff_not_imp_left, Bool.not_eq_true]

theorem hostRip32Ok_iff : hostRip32Ok p v = true ↔ (hostAddrSpaceSize p v = false → v.host.rip.toNat < 2 ^ 32) := by
  rw [hostRip32Ok, Bool.or_eq_true, beq_iff_eq, slice_top_eq_zero_iff v.host.rip (by omega), or_iff_not_imp_left,
    Bool.not_eq_true]

theorem hostPaeOk_iff : hostPaeOk p v = true ↔ (hostAddrSpaceSize p v = true → bit v.host.cr4 5 = true) := by
  rw [hostPaeOk, Bool.or_eq_true, Bool.not_eq_true', or_iff_not_imp_left, Bool.not_eq_false]

theorem hostRip64Ok_iff : hostRip64Ok p v = true ↔ (hostAddrSpaceSize p v = true → canonical p v.host.rip = true) := by
  rw [hostRip64Ok, Bool.or_eq_true, Bool.not_eq_true', or_iff_not_imp_left, Bool.not_eq_false]

theorem addrSpaceChecksPass_iff : addrSpaceChecksPass p lma v = true ↔ guestModeFitsLma p lma v = true
    ∧ guestModeFitsHost p v = true ∧ hostRip32Ok p v = true ∧ hostPaeOk p v = true ∧ hostRip64Ok p v = true := by
  simp only [addrSpaceChecksPass, Bool.and_eq_true, and_assoc]

end

/-- Settles O33: one lemma per check. -/
theorem addressSpaceConditions : Obligations.AddressSpaceConditions := by
  unfold Obligations.AddressSpaceConditions
  exact fun _ _ _ => ⟨guestModeFitsLma_iff, guestModeFitsHost_iff, hostRip32Ok_iff, hostPaeOk_iff, hostRip64Ok_iff⟩

/-- Settles O35: the guest's mode rules out a processor outside IA-32e mode and a 32-bit host, and a 64-bit host is asked for
CR4.PAE and a canonical RIP. -/
theorem ia32eGuestNeedsLongModeHost : Obligations.Ia32eGuestNeedsLongModeHost := by
  unfold Obligations.Ia32eGuestNeedsLongModeHost
  intro p lma v hpass hguest
  obtain ⟨hfitsLma, hfitsHost, -, hpae, hrip⟩ := addrSpaceChecksPass_iff.1 hpass
  have hlma : lma = true := by simpa [hguest] using guestModeFitsLma_iff.1 hfitsLma
  have hsize : hostAddrSpaceSize p v = true := by simpa [hguest] using guestModeFitsHost_iff.1 hfitsHost
  exact ⟨hlma, hsize, hostPaeOk_iff.1 hpae hsize, hostRip64Ok_iff.1 hrip hsize⟩

end Sys2Proof.Machine
end

section
/-! Step 3, the checks on the guest's registers (44_guest_register_checks.md): CR4.PAE, DR7, IA32_DEBUGCTL, the `SYSENTER`
addresses, and the bases and limits of GDTR and IDTR (R143, R145 to R149). -/

namespace Sys2Proof.Machine

section
variable {p : Impl} {v : Vmcs}

theorem guestPaeOk_iff : guestPaeOk p v = true ↔ (ia32eModeGuest p v = true → bit v.guest.cr4 5 = true) := by
  rw [guestPaeOk, Bool.or_eq_true, Bool.not_eq_true', or_iff_not_imp_left, Bool.not_eq_false]

theorem guestDr7Ok_iff : guestDr7Ok v = true ↔ v.guest.dr7.toNat < 2 ^ 32 := by
  rw [guestDr7Ok, beq_iff_eq, slice_top_eq_zero_iff v.guest.dr7 (by omega)]

theorem guestDebugctlOk_iff : guestDebugctlOk p v = true
    ↔ ∀ k, k < 64 → bit p.debugctlRsvd k = true → bit v.guest.debugctl k = false := by
  rw [guestDebugctlOk, beq_iff_eq, and_eq_zero_iff_bits]

theorem guestSysenterOk_iff :
    guestSysenterOk p v = true ↔ canonical p v.guest.sysenterEsp = true ∧ canonical p v.guest.sysenterRip = true := by
  rw [guestSysenterOk, Bool.and_eq_true]

theorem guestTableBasesOk_iff :
    guestTableBasesOk p v = true ↔ canonical p v.guest.gdtr.base = true ∧ canonical p v.guest.idtr.base = true := by
  rw [guestTableBasesOk, Bool.and_eq_true]

theorem guestTableLimitsOk_iff :
    guestTableLimitsOk v = true ↔ v.guest.gdtr.limit.toNat < 2 ^ 16 ∧ v.guest.idtr.limit.toNat < 2 ^ 16 := by
  rw [guestTableLimitsOk, Bool.and_eq_true, beq_iff_eq, beq_iff_eq, slice_top_eq_zero_iff v.guest.gdtr.limit (by omega),
    slice_top_eq_zero_iff v.guest.idtr.limit (by omega)]

end

/-- Settles O41: one lemma per check; a register's upper bits are 0 when its number is small (`slice_top_eq_zero_iff`), and
the reserved bits of IA32_DEBUGCTL are read off their mask (`and_eq_zero_iff_bits`). -/
theorem guestRegisterConditions : Obligations.GuestRegisterConditions := by
  unfold Obligations.GuestRegisterConditions
  exact fun _ _ => ⟨guestPaeOk_iff, guestDr7Ok_iff, guestDebugctlOk_iff, guestSysenterOk_iff, guestTableBasesOk_iff,
    guestTableLimitsOk_iff⟩

end Sys2Proof.Machine
end

section
/-! Step 3, the checks on the guest's segment registers (45_guest_segment_checks.md): what each of the four parts asks for
(R163 to R208), the types that the type checks allow (R179, R184), what a virtual-8086 guest (R211) and any other guest (R212)
demand of the eight registers, and the doubtful check (R209). -/

namespace Sys2Proof.Machine

/-! ### Checks that apply under a condition -/

theorem not_or_eq_true_iff_imp {b c : Bool} : (!b || c) = true ↔ (b = true → c = true) := by
  rw [Bool.or_eq_true, Bool.not_eq_true', or_iff_not_imp_left, Bool.not_eq_false]

theorem or_eq_true_iff_imp {b c : Bool} : (b || c) = true ↔ (b = false → c = true) := by
  rw [Bool.or_eq_true, or_iff_not_imp_left, Bool.not_eq_true]

theorem all_not_or_iff {rs : List Segment} {applies check : Segment → Bool} :
    (rs.all fun r => !applies r || check r) = true ↔ ∀ r ∈ rs, applies r = true → check r = true := by
  simp only [List.all_eq_true, not_or_eq_true_iff_imp]

theorem forall_mem_pair {a b : Segment} {demand : Segment → Prop} :
    (∀ r ∈ [a, b], demand r) ↔ demand a ∧ demand b := by
  rw [List.forall_mem_cons, List.forall_mem_singleton]

theorem usable_iff {r : Segment} : usable r = true ↔ arUnusable r = false := by rw [usable, Bool.not_eq_true']

/-! ### Type (R175 to R185) -/

section
variable {p : Impl} {v : Vmcs} {r : Segment}

/-- A type is a number of four bits. -/
theorem arType_lt (r : Segment) : arType r < 16 := Nat.mod_lt _ (by decide)

/-- The four low bits of the access rights are those of the type. -/
theorem bit_ar_eq_testBit_arType {k : Nat} (hk : k < 4) : bit r.ar k = (arType r).testBit k := by
  rw [arType, testBit_slice, decide_eq_true hk, Bool.true_and, Nat.zero_add]

theorem accessed_iff_odd : bit r.ar 0 = true ↔ arType r % 2 = 1 := by
  rw [bit_ar_eq_testBit_arType (by decide), Nat.testBit_zero, decide_eq_true_iff]

/-- The accessed code types (R178, R179). -/
theorem accessed_code_iff : (bit r.ar 0 = true ∧ bit r.ar 3 = true) ↔ arType r ∈ [9, 11, 13, 15] := by
  have htypes : ∀ t < 16, (t.testBit 0 = true ∧ t.testBit 3 = true) ↔ t ∈ [9, 11, 13, 15] := by decide
  simp only [bit_ar_eq_testBit_arType, Nat.reduceLT]
  exact htypes _ (arType_lt r)

/-- The accessed types that are readable if they are code types (R183, R184). -/
theorem accessed_readable_iff : (bit r.ar 0 = true ∧ (bit r.ar 3 = true → bit r.ar 1 = true))
    ↔ arType r ∈ [1, 3, 5, 7, 11, 15] := by
  have htypes : ∀ t < 16, (t.testBit 0 = true ∧ (t.testBit 3 = true → t.testBit 1 = true))
      ↔ t ∈ [1, 3, 5, 7, 11, 15] := by decide
  simp only [bit_ar_eq_testBit_arType, Nat.reduceLT]
  exact htypes _ (arType_lt r)

/-- The two type checks on TR together: which one applies is the guest's mode (R175, R176). -/
theorem trTypesOk_iff : (trTypeLegacyOk p v = true ∧ trTypeIa32eOk p v = true)
    ↔ arType v.guest.tr = 11 ∨ (ia32eModeGuest p v = false ∧ arType v.guest.tr = 3) := by
  rw [trTypeLegacyOk, trTypeIa32eOk]
  cases ia32eModeGuest p v <;> simp [or_comm]

/-- The checks of R178 and R179 together. -/
theorem csCodeTypesOk_iff (hv : v86Guest v = false) :
    (csAccessedOk v = true ∧ csCodeOk v = true) ↔ arType v.guest.cs ∈ [9, 11, 13, 15] := by
  rw [csAccessedOk, csCodeOk, hv, Bool.false_or, accessed_code_iff]

/-- The three type checks on CS together (R178 to R180). -/
theorem csTypesOk_iff : (csAccessedOk v = true ∧ csCodeOk v = true ∧ csTypeV86Ok v = true)
    ↔ (v86Guest v = false → arType v.guest.cs ∈ [9, 11, 13, 15]) ∧ (v86Guest v = true → arType v.guest.cs = 3) := by
  cases hv : v86Guest v with
  | false => simp [csTypeV86Ok, hv, ← csCodeTypesOk_iff hv]
  | true =>
    have hodd : arType v.guest.cs = 3 → bit v.guest.cs.ar 0 = true := fun h => accessed_iff_odd.2 (by rw [h])
    simpa [csAccessedOk, csCodeOk, csTypeV86Ok, hv] using hodd

/-- The two type checks on DS, ES, FS and GS together (R183, R184). -/
theorem dataTypesOk_iff : (dataAccessedOk v = true ∧ dataReadableOk v = true)
    ↔ ∀ r ∈ dataSegments v.guest, usable r = true → arType r ∈ [1, 3, 5, 7, 11, 15] := by
  simp only [dataAccessedOk, dataReadableOk, Bool.or_assoc, all_not_or_iff, not_or_eq_true_iff_imp, ← forall₂_and,
    ← imp_and, accessed_readable_iff]

end

/-- Settles O43: R178 and R179 ask for bits 0 and 3 of the type. -/
theorem codeSegmentTypesAllowed : Obligations.CodeSegmentTypesAllowed := by
  unfold Obligations.CodeSegmentTypesAllowed
  intro v hv
  rw [Bool.and_eq_true, csCodeTypesOk_iff hv]

/-- Settles O44: R183 asks for bit 0 of the type, and R184 for bit 1 where bit 3 is set. -/
theorem dataSegmentTypesAllowed : Obligations.DataSegmentTypesAllowed := by
  unfold Obligations.DataSegmentTypesAllowed
  intro v
  rw [Bool.and_eq_true, dataTypesOk_iff]

/-! ### Granularity (R202 to R205) -/

section
variable {v : Vmcs} {r : Segment}

theorem granularitySmallOk_iff : granularitySmallOk v r = true
    ↔ (arG r = true → slice r.limit 11 0 = 0xFFF ∧ v86Guest v = false) := by
  rw [granularitySmallOk]
  cases arG r <;> simp

theorem granularityLargeOk_iff : granularityLargeOk r = true ↔ (slice r.limit 31 20 ≠ 0 → arG r = true) := by
  rw [granularityLargeOk, or_eq_true_iff_imp, beq_eq_false_iff_ne]

end

/-- Settles O45: the small limit rules out G = 1, the large one asks for it. -/
theorem raggedLimitNeverPasses : Obligations.RaggedLimitNeverPasses := by
  unfold Obligations.RaggedLimitNeverPasses
  intro v r hsmall hlarge
  rw [← Bool.not_eq_true, Bool.and_eq_true, granularitySmallOk_iff, granularityLargeOk_iff]
  rintro ⟨hfull, hset⟩
  exact hsmall (hfull (hset hlarge)).1

/-! ### The four parts of the segment checks, rule by rule -/

section
variable {p : Impl} {v : Vmcs}

/-- Selectors, bases and limits, in the order of R163 to R174. -/
theorem guestSegmentFieldsOk_iff : guestSegmentFieldsOk p v = true ↔
    selTi v.guest.tr.sel = false ∧ (usable v.guest.ldtr = true → selTi v.guest.ldtr.sel = false)
    ∧ (v86Guest v = false → selRpl v.guest.ss.sel = selRpl v.guest.cs.sel)
    ∧ canonical p v.guest.tr.base = true ∧ (usable v.guest.ldtr = true → canonical p v.guest.ldtr.base = true)
    ∧ slice v.guest.cs.base 63 32 = 0 ∧ (v86Guest v = true → v.guest.cs.base = p.v86Base v.guest.cs.sel)
    ∧ (∀ r ∈ flatSegments v.guest, usable r = true → slice r.base 63 32 = 0)
    ∧ (∀ r ∈ flatSegments v.guest, v86Guest v = true → r.base = p.v86Base r.sel)
    ∧ (canonical p v.guest.fs.base = true ∧ canonical p v.guest.gs.base = true)
    ∧ (∀ r ∈ [v.guest.fs, v.guest.gs], v86Guest v = true → r.base = p.v86Base r.sel)
    ∧ ∀ r ∈ codeAndDataSegments v.guest, v86Guest v = true → r.limit = 0xFFFF := by
  simp only [guestSegmentFieldsOk, trSelectorOk, ldtrSelectorOk, ssSelectorOk, trBaseOk, ldtrBaseOk, csBaseHighOk,
    csBaseV86Ok, flatBasesHighOk, flatBasesV86Ok, fsGsBasesOk, fsGsBasesV86Ok, limitsV86Ok, Bool.and_eq_true,
    Bool.not_eq_true', Bool.not_eq_false', beq_iff_eq, all_not_or_iff, or_eq_true_iff_imp, and_assoc]

/-- Type, in the order of R175 to R185. -/
theorem guestSegmentTypesOk_iff : guestSegmentTypesOk p v = true ↔
    (arType v.guest.tr = 11 ∨ (ia32eModeGuest p v = false ∧ arType v.guest.tr = 3))
    ∧ (usable v.guest.ldtr = true → arType v.guest.ldtr = 2)
    ∧ ((v86Guest v = false → arType v.guest.cs ∈ [9, 11, 13, 15]) ∧ (v86Guest v = true → arType v.guest.cs = 3))
    ∧ (usable v.guest.ss = true → arType v.guest.ss ∈ [3, 7]) ∧ (v86Guest v = true → arType v.guest.ss = 3)
    ∧ (∀ r ∈ dataSegments v.guest, usable r = true → arType r ∈ [1, 3, 5, 7, 11, 15])
    ∧ ∀ r ∈ dataSegments v.guest, v86Guest v = true → arType r = 3 := by
  rw [← trTypesOk_iff, ← csTypesOk_iff, ← dataTypesOk_iff]
  simp only [guestSegmentTypesOk, ldtrTypeOk, ssTypeOk, ssTypeV86Ok, dataTypeV86Ok, Bool.and_eq_true, Bool.or_assoc,
    Bool.or_eq_true (_ == _), beq_iff_eq, all_not_or_iff, not_or_eq_true_iff_imp, List.mem_pair, and_assoc]

/-- S, DPL, P and bits 11:8, in the order of R186 to R199. -/
theorem guestSegmentRightsOk_iff : guestSegmentRightsOk v = true ↔
    arS v.guest.tr = false ∧ (usable v.guest.ldtr = true → arS v.guest.ldtr = false) ∧ arS v.guest.cs = true
    ∧ (∀ r ∈ stackAndDataSegments v.guest, usable r = true → arS r = true)
    ∧ (arType v.guest.cs ∈ [8, 9, 10, 11] → arDpl v.guest.cs = selRpl v.guest.cs.sel)
    ∧ (arType v.guest.cs ∈ [13, 14, 15] → arDpl v.guest.cs ≤ selRpl v.guest.cs.sel)
    ∧ (v86Guest v = true → arDpl v.guest.cs = 3)
    ∧ (v86Guest v = false → arDpl v.guest.ss = selRpl v.guest.ss.sel)
    ∧ (∀ r ∈ dataSegments v.guest, v86Guest v = false → usable r = true → arType r ≤ 11 → selRpl r.sel ≤ arDpl r)
    ∧ (∀ r ∈ dataSegments v.guest, v86Guest v = true → arDpl r = 3)
    ∧ (∀ r ∈ [v.guest.cs, v.guest.tr], arP r = true)
    ∧ (∀ r ∈ optionalSegments v.guest, usable r = true → arP r = true)
    ∧ (∀ r ∈ [v.guest.cs, v.guest.tr], arReservedLow r = 0)
    ∧ ∀ r ∈ optionalSegments v.guest, usable r = true → arReservedLow r = 0 := by
  have hnonConforming : arType v.guest.cs ∈ [8, 9, 10, 11] ↔ 8 ≤ arType v.guest.cs ∧ arType v.guest.cs ≤ 11 := by
    simp only [List.mem_cons, List.not_mem_nil, or_false]; omega
  have hconforming : arType v.guest.cs ∈ [13, 14, 15] ↔ 13 ≤ arType v.guest.cs ∧ arType v.guest.cs ≤ 15 := by
    simp only [List.mem_cons, List.not_mem_nil, or_false]; omega
  rw [hnonConforming, hconforming]
  simp only [guestSegmentRightsOk, trSystemOk, ldtrSystemOk, csSOk, stackAndDataSOk, csDplNonConformingOk,
    csDplConformingOk, csDplV86Ok, ssDplOk, dataDplOk, dataDplV86Ok, csTrPresentOk, optionalPresentOk, csTrReservedLowOk,
    optionalReservedLowOk, Bool.and_eq_true, Bool.not_eq_true', Bool.not_eq_false', beq_iff_eq, decide_eq_true_iff,
    decide_eq_false_iff_not, not_lt, List.all_eq_true, forall_mem_pair, Bool.or_assoc, or_eq_true_iff_imp, and_assoc]

/-- D/B, G, Unusable and bits 31:17 of CS and TR, in the order of R200 to R208. -/
theorem guestSegmentSizesOk_iff : guestSegmentSizesOk p v = true ↔
    (v86Guest v = true ∨ (ia32eModeGuest p v = true ∧ arL v.guest.cs = true) → arDb v.guest.cs = false)
    ∧ (∀ r ∈ stackAndDataSegments v.guest, v86Guest v = true → arDb r = false)
    ∧ (∀ r ∈ [v.guest.cs, v.guest.tr], arG r = true → slice r.limit 11 0 = 0xFFF ∧ v86Guest v = false)
    ∧ (∀ r ∈ [v.guest.cs, v.guest.tr], slice r.limit 31 20 ≠ 0 → arG r = true)
    ∧ (∀ r ∈ optionalSegments v.guest, usable r = true → arG r = true → slice r.limit 11 0 = 0xFFF ∧ v86Guest v = false)
    ∧ (∀ r ∈ optionalSegments v.guest, usable r = true → slice r.limit 31 20 ≠ 0 → arG r = true)
    ∧ arUnusable v.guest.tr = false ∧ (∀ r ∈ codeAndDataSegments v.guest, v86Guest v = true → arUnusable r = false)
    ∧ ∀ r ∈ [v.guest.cs, v.guest.tr], arReservedHigh r = 0 := by
  simp only [guestSegmentSizesOk, csDbOk, stackAndDataDbOk, csTrGranularitySmallOk, csTrGranularityLargeOk,
    optionalGranularitySmallOk, optionalGranularityLargeOk, trUsableOk, usableV86Ok, csTrReservedHighOk, Bool.and_eq_true,
    Bool.or_eq_true (v86Guest v), Bool.not_eq_true', beq_iff_eq, List.all_eq_true, not_or_eq_true_iff_imp,
    granularitySmallOk_iff, granularityLargeOk_iff, forall_mem_pair, and_assoc]

/-- The checks whose existence is certain pass when the four parts do. -/
theorem guestSegmentRulesOk_iff : guestSegmentRulesOk p v = true ↔ guestSegmentFieldsOk p v = true
    ∧ guestSegmentTypesOk p v = true ∧ guestSegmentRightsOk v = true ∧ guestSegmentSizesOk p v = true := by
  simp only [guestSegmentRulesOk, Bool.and_eq_true, and_assoc]

end

/-! ### A guest that will not be virtual-8086 -/

/-- Settles O47: the checks of a virtual-8086 guest are void, and every part is its other checks. -/
theorem ordinaryGuestDemands : Obligations.OrdinaryGuestDemands := by
  unfold Obligations.OrdinaryGuestDemands
  intro p v hv
  refine ⟨?fields, ?types, ?rights, ?sizes, guestSegmentRulesOk_iff⟩
  case fields =>
    have hbase (a : Word64) : slice a 63 32 = 0 ↔ a.toNat < 2 ^ 32 := slice_top_eq_zero_iff a (by decide)
    simp only [guestSegmentFieldsOk_iff, hv, hbase, flatSegments, List.forall_mem_cons]
    grind
  case types =>
    simp only [guestSegmentTypesOk_iff, hv, dataSegments]
    grind
  case rights =>
    simp only [guestSegmentRightsOk_iff, hv, dataSegments, stackAndDataSegments, optionalSegments, imp_and, forall_and]
    grind
  case sizes =>
    simp only [guestSegmentSizesOk_iff, hv, optionalSegments, imp_and, forall_and]
    grind

/-! ### A virtual-8086 guest -/

section
variable {p : Impl} {v : Vmcs}

/-- R165 is void, and R169, R171 and R173 together speak of the six code and data registers. -/
theorem guestSegmentFieldsOk_iff_of_v86 (hv : v86Guest v = true) : guestSegmentFieldsOk p v = true ↔
    (∀ r ∈ codeAndDataSegments v.guest, r.base = p.v86Base r.sel ∧ r.limit = 0xFFFF)
    ∧ (slice v.guest.cs.base 63 32 = 0 ∧ ∀ r ∈ flatSegments v.guest, usable r = true → slice r.base 63 32 = 0)
    ∧ canonical p v.guest.fs.base = true ∧ canonical p v.guest.gs.base = true
    ∧ (selTi v.guest.tr.sel = false ∧ canonical p v.guest.tr.base = true)
    ∧ (usable v.guest.ldtr = true → selTi v.guest.ldtr.sel = false ∧ canonical p v.guest.ldtr.base = true) := by
  simp only [guestSegmentFieldsOk_iff, hv, flatSegments, codeAndDataSegments, List.forall_mem_cons]
  grind

/-- The type 3 that R180, R182 and R185 ask for passes the other type checks on the six registers. -/
theorem guestSegmentTypesOk_iff_of_v86 (hv : v86Guest v = true) : guestSegmentTypesOk p v = true ↔
    (∀ r ∈ codeAndDataSegments v.guest, arType r = 3)
    ∧ (arType v.guest.tr = 11 ∨ (ia32eModeGuest p v = false ∧ arType v.guest.tr = 3))
    ∧ (usable v.guest.ldtr = true → arType v.guest.ldtr = 2) := by
  simp only [guestSegmentTypesOk_iff, hv, dataSegments, codeAndDataSegments, List.forall_mem_cons]
  grind

/-- R193 and R194 are void, and so are R190 and R191 on a CS of type 3. -/
theorem guestSegmentRightsOk_iff_of_v86 (hv : v86Guest v = true) (hcs : arType v.guest.cs = 3)
    (husable : ∀ r ∈ codeAndDataSegments v.guest, arUnusable r = false) : guestSegmentRightsOk v = true ↔
    (∀ r ∈ codeAndDataSegments v.guest, arS r = true ∧ arP r = true ∧ arReservedLow r = 0)
    ∧ arDpl v.guest.cs = 3 ∧ (∀ r ∈ dataSegments v.guest, arDpl r = 3)
    ∧ (arS v.guest.tr = false ∧ arP v.guest.tr = true ∧ arReservedLow v.guest.tr = 0)
    ∧ (usable v.guest.ldtr = true →
        arS v.guest.ldtr = false ∧ arP v.guest.ldtr = true ∧ arReservedLow v.guest.ldtr = 0) := by
  simp only [guestSegmentRightsOk_iff, usable_iff, hv, hcs, dataSegments, stackAndDataSegments, optionalSegments,
    codeAndDataSegments, List.forall_mem_cons] at husable ⊢
  grind

/-- A limit of FFFFH leaves no bit for R203 and R205 to look at. -/
theorem guestSegmentSizesOk_iff_of_v86 (hv : v86Guest v = true)
    (hlimit : ∀ r ∈ codeAndDataSegments v.guest, r.limit = 0xFFFF) : guestSegmentSizesOk p v = true ↔
    (∀ r ∈ codeAndDataSegments v.guest, arDb r = false ∧ arG r = false ∧ arUnusable r = false)
    ∧ arReservedHigh v.guest.cs = 0
    ∧ (arG v.guest.tr = false ∧ slice v.guest.tr.limit 31 20 = 0 ∧ arUnusable v.guest.tr = false
        ∧ arReservedHigh v.guest.tr = 0)
    ∧ (usable v.guest.ldtr = true → arG v.guest.ldtr = false ∧ slice v.guest.ldtr.limit 31 20 = 0) := by
  have hhigh : slice (0xFFFF : Word32) 31 20 = 0 := by decide
  simp only [guestSegmentSizesOk_iff, usable_iff, hv, stackAndDataSegments, optionalSegments, codeAndDataSegments,
    List.forall_mem_cons] at hlimit ⊢
  grind

end

/-- Settles O46: the limits come with the first part, with them R207 (usable) with the last, and the types with the second;
what is asked of usable registers is then asked of the six. -/
theorem virtual8086GuestDemands : Obligations.Virtual8086GuestDemands := by
  unfold Obligations.Virtual8086GuestDemands
  intro p v hv
  rw [guestSegmentRulesOk_iff, guestSegmentFieldsOk_iff_of_v86 hv, guestSegmentTypesOk_iff_of_v86 hv]
  constructor
  · rintro ⟨⟨hbase, ⟨hcsHigh, hflatHigh⟩, hfs, hgs, htrField, hldtrField⟩, ⟨htype, htrType, hldtrType⟩, hrights, hsizes⟩
    obtain ⟨hsize, hcsReserved, htrSize, hldtrSize⟩ :=
      (guestSegmentSizesOk_iff_of_v86 hv fun r hr => (hbase r hr).2).1 hsizes
    obtain ⟨hright, hcsDpl, hdataDpl, htrRight, hldtrRight⟩ :=
      (guestSegmentRightsOk_iff_of_v86 hv (htype _ (.head _)) fun r hr => (hsize r hr).2.2).1 hrights
    refine ⟨fun r hr => ?registers, hcsDpl, hdataDpl, ?high, hfs, hgs, hcsReserved, ?tr, fun hldtr => ?ldtr⟩
    case registers => grind
    case high => grind [flatSegments, codeAndDataSegments, usable_iff]
    case tr => grind
    case ldtr => grind
  · rintro ⟨hreg, hcsDpl, hdataDpl, hhigh, hfs, hgs, hcsReserved, htr, hldtr⟩
    have hcs : arType v.guest.cs = 3 := by grind [codeAndDataSegments]
    rw [guestSegmentSizesOk_iff_of_v86 hv (by grind), guestSegmentRightsOk_iff_of_v86 hv hcs (by grind)]
    grind [flatSegments]

/-! ### Unusable registers (R212) and the doubtful check (R209) -/

section
variable {p : Impl} {s : State} {v w : Vmcs}

theorem optionalReservedHighZero_iff : optionalReservedHighZero v = true
    ↔ ∀ r ∈ optionalSegments v.guest, usable r = true → arReservedHigh r = 0 := by
  simp only [optionalReservedHighZero, all_not_or_iff, beq_iff_eq]

theorem optionalReservedHighOk_of_yes (h : p.checkRsvd3117Other = .yes) :
    optionalReservedHighOk p s v = optionalReservedHighZero v := by rw [optionalReservedHighOk, h]

theorem optionalReservedHighOk_of_no (h : p.checkRsvd3117Other = .no) : optionalReservedHighOk p s v = true := by
  rw [optionalReservedHighOk, h]

theorem optionalReservedHighOk_of_either (h : p.checkRsvd3117Other = .either) :
    optionalReservedHighOk p s v = (optionalReservedHighZero v || p.rsvd3117Verdict s) := by rw [optionalReservedHighOk, h]

theorem optionalReservedHighOk_of_zero (h : optionalReservedHighZero v = true) : optionalReservedHighOk p s v = true := by
  cases hcheck : p.checkRsvd3117Other with
  | yes => rw [optionalReservedHighOk_of_yes hcheck, h]
  | no => exact optionalReservedHighOk_of_no hcheck
  | either => rw [optionalReservedHighOk_of_either hcheck, h, Bool.true_or]

theorem guestSegmentChecksPass_of_rules (h : guestSegmentRulesOk p v = true) :
    guestSegmentChecksPass p s v = optionalReservedHighOk p s v := by
  rw [guestSegmentChecksPass, h, Bool.true_and]

/-- The verdict depends on the VMCS through the certain checks and the condition of R209. -/
theorem guestSegmentChecksPass_congr (hrules : guestSegmentRulesOk p w = true ↔ guestSegmentRulesOk p v = true)
    (hhigh : optionalReservedHighZero w = true ↔ optionalReservedHighZero v = true) :
    guestSegmentChecksPass p s w = guestSegmentChecksPass p s v := by
  rw [guestSegmentChecksPass, guestSegmentChecksPass, optionalReservedHighOk, optionalReservedHighOk,
    Bool.eq_iff_iff.2 hrules, Bool.eq_iff_iff.2 hhigh]

end

/-- Settles O48: once the checks of a virtual-8086 guest are void, every demand on DS, ES and LDTR is one on a usable
register. -/
theorem unusableRegistersDoNotMatter : Obligations.UnusableRegistersDoNotMatter := by
  unfold Obligations.UnusableRegistersDoNotMatter
  intro p s v r hv hr
  rw [v86Guest] at hv
  refine ⟨fun hunused => guestSegmentChecksPass_congr ?_ ?_, fun hunused => guestSegmentChecksPass_congr ?_ ?_,
    fun hunused => guestSegmentChecksPass_congr ?_ ?_⟩
  all_goals
    simp only [guestSegmentRulesOk_iff, guestSegmentFieldsOk_iff, guestSegmentTypesOk_iff, guestSegmentRightsOk_iff,
      guestSegmentSizesOk_iff, optionalReservedHighZero_iff, v86Guest, ia32eModeGuest, hv, hr, hunused, dataSegments,
      flatSegments, stackAndDataSegments, codeAndDataSegments, optionalSegments, List.forall_mem_cons, Bool.false_eq_true,
      false_imp_iff, true_and, implies_true]

/-- Settles O49: with the certain checks passing, the verdict is that of R209 under its setting. -/
theorem doubtfulReservedBits : Obligations.DoubtfulReservedBits := by
  unfold Obligations.DoubtfulReservedBits
  intro p s v hrules
  rw [guestSegmentChecksPass_of_rules hrules]
  refine ⟨optionalReservedHighOk_of_zero, fun hset => ⟨fun hyes => ?yes, optionalReservedHighOk_of_no, fun heither => ?either⟩⟩
  case yes => rw [optionalReservedHighOk_of_yes hyes, hset]
  case either => rw [optionalReservedHighOk_of_either heither, hset, Bool.false_or]

end Sys2Proof.Machine
end

section
/-! The exceptions of a VM-entry instruction (60_exceptions.md): the only outcomes that raise one are those of checks 1 and 2
(R240), and what each exception carries (R241 to R243). -/

namespace Sys2Proof.Machine

section
variable {p : Impl} {kind : EntryKind} {s : State} {f : Fault}

/-- `VMfailInvalid` goes on or is refused; it raises no exception (40_vm_entry_sequence.md R66). -/
theorem vmFailInvalid_ne_fault : vmFailInvalid p s ≠ .fault f := by
  unfold vmFailInvalid
  cases nextRip p s.cpu with
  | none => nofun
  | some rip => nofun

/-- `VMfailValid` goes on or is refused; it raises no exception (40_vm_entry_sequence.md R67). -/
theorem vmFailValid_ne_fault {e : Word32} : vmFailValid p e s ≠ .fault f := by
  unfold vmFailValid
  cases nextRip p s.cpu with
  | none => nofun
  | some rip => nofun

/-- A VM entry raises an exception in exactly these ways; the outcome says which (60_exceptions.md R240). -/
theorem vmEntry_fault (h : vmEntry p kind s = .fault f) :
    (entryOutcome p kind s = .invalidOpcode ∧ f = .invalidOpcode s.cpu.rip)
      ∨ (entryOutcome p kind s = .generalProtection ∧ f = .generalProtection s.cpu.rip 0) := by
  unfold vmEntry at h
  cases ho : entryOutcome p kind s with
  | invalidOpcode => rw [ho] at h; injection h with hf; exact .inl ⟨rfl, hf.symm⟩
  | generalProtection => rw [ho] at h; injection h with hf; exact .inr ⟨rfl, hf.symm⟩
  | vmFailInvalid => rw [ho] at h; exact absurd h vmFailInvalid_ne_fault
  | vmFailValid e => rw [ho] at h; exact absurd h vmFailValid_ne_fault
  | entryFailsLikeExit => rw [ho] at h; cases h
  | checksPassed => rw [ho] at h; cases h
  | refuse r => rw [ho] at h; cases h

end

/-- Settles O13: the exception is that of check 1 or of check 2, and what it carries is read off it. -/
theorem faultsReportTheInstruction : Obligations.FaultsReportTheInstruction := by
  unfold Obligations.FaultsReportTheInstruction
  intro i s f h
  rw [exec_eq_vmEntry] at h
  obtain ⟨-, rfl⟩ | ⟨-, rfl⟩ := vmEntry_fault h
  · exact .inl ⟨rfl, rfl, rfl⟩
  · exact .inr ⟨rfl, rfl, rfl⟩

end Sys2Proof.Machine
end

section
/-! CR0.NW and CR0.CD over every step (70_reset_and_hazards.md R268): a VM-instruction failure writes no control register, and
every load of processor state keeps the two bits. -/

namespace Sys2Proof.Machine

/-- Words that agree under the mask of CR0.NW and CR0.CD agree on each bit of the mask. -/
theorem bit_eq_of_cacheBits {a b : Word64} (h : a &&& cr0CacheBits = b &&& cr0CacheBits) {k : Nat}
    (hk : bit cr0CacheBits k = true) : bit a k = bit b k := by
  have hbit : bit (a &&& cr0CacheBits) k = bit (b &&& cr0CacheBits) k := by rw [h]
  rwa [bit_and, bit_and, hk, Bool.and_true, Bool.and_true] at hbit

section
variable {p : Impl} {kind : EntryKind} {s t : State}

/-- `VMfailInvalid` writes no control register (40_vm_entry_sequence.md R66). -/
theorem vmFailInvalid_cr0 (h : vmFailInvalid p s = .next t) : t.cpu.cr0 = s.cpu.cr0 := by
  obtain ⟨rip, -, rfl⟩ := vmFailInvalid_next h
  rfl

/-- `VMfailValid` writes no control register (40_vm_entry_sequence.md R67). -/
theorem vmFailValid_cr0 {e : Word32} (h : vmFailValid p e s = .next t) : t.cpu.cr0 = s.cpu.cr0 := by
  obtain ⟨rip, -, rfl⟩ := vmFailValid_next h
  rfl

/-- Under every implementation each of the four ways to a next state keeps CR0.NW and CR0.CD. -/
theorem vmEntry_cacheBits (h : vmEntry p kind s = .next t) :
    t.cpu.cr0 &&& cr0CacheBits = s.cpu.cr0 &&& cr0CacheBits := by
  obtain ⟨-, hf⟩ | ⟨e, v, -, -, hf⟩ | ⟨cause, u, v, -, hf⟩ | ⟨v, -, -, -, hguest⟩ := vmEntry_next_cases h
  · rw [vmFailInvalid_cr0 hf]
  · rw [vmFailValid_cr0 hf]
  · rw [hf.cpu, keepCacheBits_cacheBits]
  · exact hguest.cacheBits

end

/-- Settles O52: a step that gives a next state is a VM entry, which keeps the two bits, 29 and 30. -/
theorem cacheBitsNeverChange : Obligations.CacheBitsNeverChange := by
  unfold Obligations.CacheBitsNeverChange
  intro s t hstep
  obtain ⟨i, -, -, hentry⟩ := step_next_decode hstep
  have hkept := vmEntry_cacheBits hentry
  exact ⟨bit_eq_of_cacheBits hkept rfl, bit_eq_of_cacheBits hkept rfl⟩

end Sys2Proof.Machine
end
